-- ==== Sys2Proof/Word.lean ====
section
/-! DEFINITION. The words of SBP-DEC: bytes and the 16- and 32-bit values built from them (00_scope.md R8). -/

namespace Sys2Proof

/-- "A byte is 8 bits" (00_scope.md R8); bit 0 is the least significant. -/
abbrev Byte := BitVec 8

/-- A 16-bit value: checksums, message types, sender ids, u16 fields. -/
abbrev Word16 := BitVec 16

/-- A 32-bit value: u32 fields and the patterns of i32 fields. -/
abbrev Word32 := BitVec 32

/-- A message type code: a raw unsigned 16-bit value (30_encoding.md R84, 90_conflicts.md C9). -/
abbrev MsgType := BitVec 16

end Sys2Proof
end

