-- ==== Sys2Proof/Machine/Records.lean ====
section
/-! DEFINITION. The output records of 10_state.md R29 to R34, the five failures and the response of R28.
An unsigned field is a bit vector of its width; a signed field is the mathematical integer that R10 and R101 give. -/

namespace Sys2Proof.Machine

open Sys2Proof

/-- MessageHeader (R29). -/
structure MessageHeader where
  preamble : Byte
  messageType : MsgType
  senderId : Word16
  payloadLength : Byte
deriving DecidableEq, Repr

/-- ObservationHeader (R30). -/
structure ObservationHeader where
  timeOfWeek : Word32
  residualNanoseconds : Int
  weekNumber : Word16
  fragmentIndex : BitVec 4
  fragmentTotal : BitVec 4
deriving DecidableEq, Repr

/-- ObservationFlags (R32): five Booleans and the 3-bit `reserved`. -/
structure ObservationFlags where
  pseudorangeValid : Bool
  carrierPhaseValid : Bool
  halfCycleResolved : Bool
  dopplerValid : Bool
  reserved : BitVec 3
  raimExcl : Bool
deriving DecidableEq, Repr

/-- ObservationRecord (R31). -/
structure ObservationRecord where
  pseudorange : Word32
  carrierPhaseInt : Int
  carrierPhaseFrac : Byte
  dopplerInt : Int
  dopplerFrac : Byte
  cn0 : Byte
  lock : Byte
  flags : ObservationFlags
  satId : Byte
  signalCode : Byte
deriving DecidableEq, Repr

/-- ObservationMessage (R33): the header and the records in wire order. -/
structure ObservationMessage where
  header : ObservationHeader
  records : List ObservationRecord
deriving DecidableEq, Repr

/-- BaselineECEF (R34); `flags` is not unpacked. -/
structure BaselineECEF where
  timeOfWeek : Word32
  x : Int
  y : Int
  z : Int
  accuracy : Word16
  satelliteCount : Byte
  flags : Byte
deriving DecidableEq, Repr

/-- The five failures of 60_exceptions.md R240. They are values of the response, not faults of the machine (R261). -/
inductive Failure where
  | syncMismatch
  | bufferTooShort
  | typeRejected
  | checksumMismatch
  | malformedLength
deriving DecidableEq, Repr

/-- The value of a successful response. The first four are R28's; the last two are what the layout rows `OBSHDR` and
`OBSREC` yield (DESIGN CHOICE, log 20). -/
inductive Value where
  /-- `CRC16`: a 16-bit checksum. -/
  | checksum (c : Word16)
  /-- `SCAN`, `VALIDATE`. -/
  | header (h : MessageHeader)
  /-- `DECBL`. -/
  | baseline (b : BaselineECEF)
  /-- `DECOBS`. -/
  | observations (m : ObservationMessage)
  /-- The `OBSHDR` row. -/
  | obsHeader (h : ObservationHeader)
  /-- The `OBSREC` row: the record sequence. -/
  | obsRecords (rs : List ObservationRecord)
deriving DecidableEq, Repr

/-- `RSP` (R28): a value on success; on failure the name alone (60_exceptions.md R243), never a value (R248, U9). -/
inductive Response where
  | ok (v : Value)
  | fail (f : Failure)
deriving DecidableEq, Repr

end Sys2Proof.Machine
end

