-- ==== Sys2Proof/Config.lean ====
section
/-! DEFINITION. What the spec fixes (00_scope.md R6), what it leaves to a configuration (R7, 10_state.md R39), and the
free values (10_state.md R38, 93_implementation_defined.md U13). -/

namespace Sys2Proof

/-! ## Constants of 00_scope.md R6 -/

/-- `SYNC`: the fixed sync byte. -/
def sync : Byte := 0x55
/-- `HEADER_SIZE`: 1 sync + 2 type + 2 sender + 1 length. -/
abbrev headerSize : Nat := 6
/-- `CRC_SIZE`: the trailing checksum bytes. -/
abbrev crcSize : Nat := 2
/-- `CRC_POLY`: the CCITT polynomial, the x^16 term implied. -/
def crcPoly : Word16 := 0x1021
/-- `CRC_INIT`: the initial register value. -/
def crcInit : Word16 := 0x0000
/-- `CRC_TABLE_SIZE`. -/
abbrev crcTableSize : Nat := 256
/-- `TYPE_OBS`: Observation set. -/
def typeObs : MsgType := 0x004A
/-- `TYPE_BASELINE_ECEF`: Baseline ECEF. -/
def typeBaselineEcef : MsgType := 0x0202
/-- `OBS_HDR_SIZE`: 11, not D0's 8 (90_conflicts.md C1). -/
abbrev obsHdrSize : Nat := 11
/-- `OBS_REC_SIZE`. -/
abbrev obsRecSize : Nat := 17
/-- `BASELINE_SIZE`: 20, not D0's 16 (90_conflicts.md C2). -/
abbrev baselineSize : Nat := 20
/-- `MAX_PAYLOAD`: the largest 8-bit length. -/
abbrev maxPayload : Nat := 255
/-- `MAX_FRAME`: 6 + 255 + 2. -/
abbrev maxFrame : Nat := 263
/-- `MAX_OBS_RECORDS`: (255 - 11) div 17. -/
abbrev maxObsRecords : Nat := 14

/-- The parameters of 00_scope.md R7, fixed for the life of an instance (10_state.md R39). A capacity of `none` is
"unbounded", which R7 and D21 allow. -/
structure Config where
  /-- `BL_TYPE_CHECK`: DECBL checks `message_type` (43_baseline_decode.md R192). -/
  blTypeCheck : Bool
  /-- `FRAG_INDEX_LOW`: `fragment_index` is the low nibble (30_encoding.md R94). -/
  fragIndexLow : Bool
  /-- `BUF_CAP`: capacity of the input buffer in bytes (10_state.md R21). -/
  bufCap : Option Nat
  /-- `MAX_TYPES`: capacity of the allowed-types set (10_state.md R22). -/
  maxTypes : Option Nat
deriving DecidableEq, Repr

/-- The values for this hardware: both bits 1 (10_state.md R38, R39).
DESIGN CHOICE (log 7): the two OPEN capacities are taken as unbounded, as R7 lets a model do. -/
def Config.hardware : Config :=
  { blTypeCheck := true, fragIndexLow := true, bufCap := none, maxTypes := none }

/-- R7: `BUF_CAP` is "at least `MAX_FRAME` = 263" and `MAX_TYPES` "at least 2". -/
def Config.wf (c : Config) : Bool :=
  (match c.bufCap with
    | none => true
    | some n => decide (maxFrame ≤ n)) &&
  (match c.maxTypes with
    | none => true
    | some n => decide (2 ≤ n))

/-! ## Free values

After an operation the working registers hold "`any value`, never read before written" (U13). Each is an opaque
function of a plain counter (`State.draws`): nothing constrains it. DESIGN CHOICE (log 4), safe. -/

/-- What `ACC` holds between operations. -/
opaque Config.freeAcc : Nat → Word16
/-- What `IDX` holds between operations. -/
opaque Config.freeIdx : Nat → Byte
/-- What `CUR` holds between operations. -/
opaque Config.freeCur : Nat → Nat
/-- What the four fields of `HDR` hold between operations: 48 bits. -/
opaque Config.freeHdr : Nat → BitVec 48
/-- What `STORED` holds between operations. -/
opaque Config.freeStored : Nat → Word16
/-- What `COMPUTED` holds between operations. -/
opaque Config.freeComputed : Nat → Word16
/-- What `NREC` holds between operations: a natural in 0..14 (10_state.md R26). -/
opaque Config.freeNrec : Nat → Fin 15

end Sys2Proof
end

