-- ==== Sys2Proof/Syntax.lean ====
section
/-! DEFINITION. The operations and formats of spec/opcode_table.json as one inductive, and the port they arrive at. -/

namespace Sys2Proof

/-- One constructor per row of spec/opcode_table.json. The first five are the host's operations (30_encoding.md R110);
the other six are the wire formats of R112: the frame kinds and the payload layouts, whose words stand in `BUF`. -/
inductive Instr where
  /-- `CRC16 OFF, LEN` (40_checksum.md R133). -/
  | crc16 (off len : Nat)
  /-- `SCAN ALLOWED` (41_header_scan.md R151); the empty set is "no filter". -/
  | scan (allowed : List MsgType)
  /-- `VALIDATE` (42_frame_validate.md R171). -/
  | validate
  /-- `DECBL` (43_baseline_decode.md R191). -/
  | decbl
  /-- `DECOBS` (44_observation_decode.md R211). -/
  | decobs
  /-- The frame kind `MSG_OBS`: 0x004A55 under 0xFFFFFF; rule R211. -/
  | msgObs
  /-- The frame kind `MSG_BASELINE_ECEF`: 0x020255 under 0xFFFFFF; rule R191. -/
  | msgBaselineEcef
  /-- The frame kind `MSG_OTHER`: 0x000055 under 0x0000FF, every other type; rule R171. -/
  | msgOther
  /-- The layout `OBSHDR`: the 11 bytes at payload offset 0; rule R215. -/
  | obshdr
  /-- The layout `OBSREC`: the 17-byte records at payload offset 11 + 17 k, k = 0..N-1; rule R217. -/
  | obsrec
  /-- The layout `BLECEF`: the 20 bytes at payload offset 0; rule R194. -/
  | blecef
deriving DecidableEq, Repr

/-- Which format of the table the presented word has. Only `command` is a port of the spec (10_state.md R24).
DESIGN CHOICE (log 8, log 9): the other four let the six format rows of the table be run. -/
inductive Port where
  /-- The 3-bit operation code on the command port, with its operands (R110). -/
  | command
  /-- The frame that stands at `BUF` index 0, taken by its kind (R112, the `FRAME` rows). -/
  | frame
  /-- The layout `OBSHDR` of the frame in `BUF`. -/
  | obsHeader
  /-- The layout `OBSREC` of the frame in `BUF`. -/
  | obsRecords
  /-- The layout `BLECEF` of the frame in `BUF`. -/
  | baseline
deriving DecidableEq, Repr

/-- What the decoder is given: the port, the word's bytes (lowest index first), and the operands that stand beside a
command code (R110, R285). -/
structure PortWord where
  port : Port
  bytes : List Byte
  off : Nat
  len : Nat
  allowed : List MsgType
deriving DecidableEq, Repr

end Sys2Proof
end

