-- ==== Sys2Proof/Machine/State.lean ====
section
/-! DEFINITION. The state of SBP-DEC: the operands the host drives, the response, the working registers of 10_state.md
R26, the configuration of R39; the reasons a step can stop; the state after reset (R38). -/

namespace Sys2Proof.Machine

open Sys2Proof

/-- The bytes of `BUF` as (index, byte) pairs in canonical form: indexes strictly rising, no byte 0 listed (log 2). -/
abbrev Memory := List Host.Cell

/-- The working registers of 10_state.md R26: "internal", each written before it is read in every operation. -/
structure Work where
  /-- `ACC`, the checksum accumulator. -/
  acc : Word16
  /-- `IDX`, the table index. -/
  idx : Byte
  /-- `CUR`, the byte index into `BUF` of the next field. -/
  cur : Nat
  /-- `HDR`, the decoded MessageHeader: 48 bits in four fields. -/
  hdr : MessageHeader
  /-- `STORED`, the checksum read from the trailer. -/
  stored : Word16
  /-- `COMPUTED`, the checksum computed over the frame. -/
  computed : Word16
  /-- `NREC`, the number of ObservationRecords in this frame. -/
  nrec : Nat
deriving DecidableEq, Repr

/-- The whole machine. The operands belong to the host and stand at the core's ports (R21 to R24, R285); no operation
writes them. -/
structure State where
  /-- The request at the core; `none`: the core is idle (R38, 70_reset_and_hazards.md R280). -/
  request : Option Port
  /-- `CMD[2:0]` (R24). -/
  cmd : BitVec 3
  /-- `OFF` (R23). -/
  off : Nat
  /-- `LEN` (R23). -/
  len : Nat
  /-- `ALLOWED` (R22), as the host lists it. -/
  allowed : List MsgType
  /-- `BUF` (R21). -/
  buf : Memory
  /-- `BUF_LEN` (R21). -/
  bufLen : Nat
  /-- `RSP` (R28); `none` until the first operation ends. -/
  rsp : Option Response
  /-- The working registers (R26). -/
  work : Work
  /-- The model's own counter of free values drawn (log 4, log 5). -/
  draws : Nat
  /-- The configuration (R39), changed by no operation. -/
  config : Config
deriving DecidableEq, Repr

/-- A stop of the machine itself. The five failures of R240 are no faults: they are responses (R261). -/
inductive Fault where
  /-- A read of `BUF[i]` with `i ≥ BUF_LEN`, an index that does not exist. Raised by the typed reads; R59 says no operation
  makes such a read. Safe: the model stops. -/
  | bufferOverrun
deriving DecidableEq, Repr

/-- A request the machine has no meaning for. -/
inductive Refusal where
  /-- An instruction with no meaning in the model: raised by no arm of this model. Safe. -/
  | notModelled (mnemonic : String)
  /-- `CMD` = 5, 6 or 7 (30_encoding.md R110, U6). Raised by the step. Safe: the spec says a model refuses it. -/
  | reservedCommand (code : BitVec 3)
  /-- `BUF_LEN` > `BUF_CAP` (U7). Raised by every operation of a bounded configuration. Safe: the spec says refuse. -/
  | bufferOverCapacity
  /-- More than `MAX_TYPES` members in `ALLOWED` (U8). Raised by `SCAN` of a bounded configuration. Safe. -/
  | allowedOverCapacity
deriving DecidableEq, Repr

/-- The working registers at reset. The spec gives no value (R38 "unspecified").
DESIGN CHOICE (log 3), unsafe: zero in every field. -/
def Work.reset : Work :=
  { acc := 0, idx := 0, cur := 0,
    hdr := { preamble := 0, messageType := 0, senderId := 0, payloadLength := 0 },
    stored := 0, computed := 0, nrec := 0 }

/-- After reset the core is idle, no response exists and the configuration bits have their configured values (R38, R280).
DESIGN CHOICE (log 1, log 3, log 5), unsafe: the host's operands are empty or 0, the working registers 0, the counter 0. -/
def State.reset : State :=
  { request := none
    cmd := 0
    off := 0
    len := 0
    allowed := []
    buf := []
    bufLen := 0
    rsp := none
    work := Work.reset
    draws := 0
    config := Config.hardware }

end Sys2Proof.Machine
end

