-- ==== Sys2Proof/Machine/Ops.lean ====
section
/-! DEFINITION. The shared operations: `BUF` as canonical memory, the result of a stage of an operation, how a response
is delivered, and how a failure is taken (60_exceptions.md R247). -/

namespace Sys2Proof.Machine

open Sys2Proof

/-! ## BUF -/

/-- What an index below `BUF_LEN` reads as when no cell lists it. The host supplies every byte of `BUF` (R21), so this
says only which byte needs no cell. DESIGN CHOICE (log 2), unsafe. -/
def Memory.unlisted : Byte := 0

/-- One byte. -/
def Memory.read : Memory → Nat → Byte
  | [], _ => Memory.unlisted
  | (b, v) :: rest, a => if a = b then v else Memory.read rest a

/-- The canonical form: indexes strictly rising, no cell equal to what an unlisted index reads as. -/
def Memory.wf : Memory → Bool
  | [] => true
  | [(_, v)] => v != Memory.unlisted
  | (a, v) :: (b, u) :: rest => v != Memory.unlisted && decide (a < b) && Memory.wf ((b, u) :: rest)

/-- Put a cell in front, unless it says what an unlisted index reads as anyway. -/
def Memory.consCell (a : Nat) (v : Byte) (m : Memory) : Memory :=
  if v = Memory.unlisted then m else (a, v) :: m

/-- The host's write of one byte, keeping the canonical form. The core itself never writes `BUF` (R56). -/
def Memory.write : Memory → Nat → Byte → Memory
  | [], a, v => Memory.consCell a v []
  | (b, u) :: rest, a, v =>
    if a < b then Memory.consCell a v ((b, u) :: rest)
    else if a = b then Memory.consCell a v rest
    else (b, u) :: Memory.write rest a v

/-- The canonical memory of a byte sequence laid out from an index upward. -/
def Memory.ofBytes (a : Nat) : List Byte → Memory
  | [] => []
  | v :: rest => Memory.consCell a v (Memory.ofBytes (a + 1) rest)

/-- `BufRead(addr, n)`: the bytes at `addr .. addr+n-1` (00_scope.md R11). -/
def State.bytesAt (s : State) (addr n : Nat) : List Byte :=
  (List.range n).map fun j => s.buf.read (addr + j)

/-- `BUF` as the byte sequence it is (10_state.md R21). -/
def State.bytes (s : State) : List Byte := s.bytesAt 0 s.bufLen

/-- The host's load of a whole buffer, index 0 first, with its length. -/
def State.loadBuffer (s : State) (bytes : List Byte) : State :=
  { s with buf := Memory.ofBytes 0 bytes, bufLen := bytes.length }

/-! ## Stages -/

/-- How a stage of an operation ends: with a value and the working registers it leaves, in a failure (00_scope.md R12,
`fail <Error>`), or in a read that does not exist. -/
inductive Res (α : Type) where
  | ok (a : α) (w : Work)
  | fail (f : Failure)
  | fault (r : Fault)
deriving DecidableEq, Repr

/-- `h <- STAGE; rest`: the rest runs only if the stage succeeded; a failure passes through unchanged (R12, R245, R252). -/
def Res.bind {α β : Type} (x : Res α) (k : α → Work → Res β) : Res β :=
  match x with
  | .ok a w => k a w
  | .fail f => .fail f
  | .fault r => .fault r

/-- A stage's value under another type, its working registers as they are. -/
def Res.map {α β : Type} (g : α → β) (x : Res α) : Res β :=
  x.bind fun a w => .ok (g a) w

/-! ## Responses -/

/-- `HDR` with the 48 bits of a header word (30_encoding.md R81). -/
def headerOfBits (h : BitVec 48) : MessageHeader :=
  { preamble := h.extractLsb' 0 8
    messageType := h.extractLsb' 8 16
    senderId := h.extractLsb' 24 16
    payloadLength := h.extractLsb' 40 8 }

/-- The working registers between operations: "`any value`" (U13), the `n`-th draw of free values (log 4). -/
def Work.unspecified (n : Nat) : Work :=
  { acc := Config.freeAcc n
    idx := Config.freeIdx n
    cur := Config.freeCur n
    hdr := headerOfBits (Config.freeHdr n)
    stored := Config.freeStored n
    computed := Config.freeComputed n
    nrec := (Config.freeNrec n).val }

/-- The operation ends: its response is handed to the host, the core is idle and ready for the next operation (R28, R250),
and the working registers keep nothing (R26). -/
def State.respond (s : State) (r : Response) : State :=
  { s with
    request := none
    rsp := some r
    work := Work.unspecified s.draws
    draws := s.draws + 1 }

/-- Taking a failure, the block's trap entry (60_exceptions.md R247): the response is `Fail(name)` and nothing else happens,
"no return address, no cause register, no mode change, no mask change". There is no return from it beside this: "there is no
return instruction and nothing to restore" (R249), the core is ready for the next operation (R250). -/
def State.takeFailure (s : State) (f : Failure) : State := s.respond (.fail f)

/-- U7: `BUF_LEN` is within `BUF_CAP`. -/
def State.bufFits (s : State) : Bool :=
  match s.config.bufCap with
  | none => true
  | some cap => decide (s.bufLen ≤ cap)

/-- U8: `ALLOWED` has at most `MAX_TYPES` members. -/
def State.typesFit (s : State) (allowed : List MsgType) : Bool :=
  match s.config.maxTypes with
  | none => true
  | some cap => decide (allowed.length ≤ cap)

/-- One operation as one atomic step (R3): run its stages, deliver its response. -/
def State.run (s : State) (op : Work → Res Value) : Host.Outcome State Fault Refusal :=
  if s.bufFits then
    match op s.work with
    | .ok v _ => .next (s.respond (.ok v))
    | .fail f => .next (s.takeFailure f)
    | .fault r => .fault r
  else .refused .bufferOverCapacity

/-! ## Status codes -/

/-- The status code of a failure (60_exceptions.md R241). -/
def Failure.code : Failure → BitVec 3
  | .syncMismatch => 1
  | .bufferTooShort => 2
  | .typeRejected => 3
  | .checksumMismatch => 4
  | .malformedLength => 5

/-- `STATUS[2:0]` of a response (R241): 0 is `OK`; 6 and 7 are never produced. -/
def Response.status : Response → BitVec 3
  | .ok _ => 0
  | .fail f => f.code

end Sys2Proof.Machine
end

