-- ==== Sys2Proof/Machine/Operands.lean ====
section
/-! DEFINITION. The typed reads of 00_scope.md R11: little-endian, checked against `BUF_LEN` (20_memory.md R52, R59). -/

namespace Sys2Proof.Machine

open Sys2Proof

/-- `u16` of two bytes, the lower index first: `b0 | (b1 << 8)` (R11). -/
def word16 (b0 b1 : Byte) : Word16 :=
  b0.setWidth 16 ||| b1.setWidth 16 <<< 8

/-- `u32` of four bytes, the lowest index first (R11). -/
def word32 (b0 b1 b2 b3 : Byte) : Word32 :=
  b0.setWidth 32 ||| b1.setWidth 32 <<< 8 ||| b2.setWidth 32 <<< 16 ||| b3.setWidth 32 <<< 24

/-- `signed_N(v)`: two's complement (00_scope.md R10, 30_encoding.md R101). -/
def signed {n : Nat} (v : BitVec n) : Int :=
  if v.toNat < 2 ^ (n - 1) then (v.toNat : Int) else (v.toNat : Int) - 2 ^ n

/-- `BUF[a]`, for an index known to exist. -/
def State.byte (s : State) (a : Nat) : Byte := s.buf.read a

/-- The little-endian 16 bits at `a`. -/
def State.half (s : State) (a : Nat) : Word16 := word16 (s.byte a) (s.byte (a + 1))

/-- The little-endian 32 bits at `a`. -/
def State.full (s : State) (a : Nat) : Word32 :=
  word32 (s.byte a) (s.byte (a + 1)) (s.byte (a + 2)) (s.byte (a + 3))

/-- `BufRead(a, n)` seen through `get`: `CUR` holds the index read (R26); "defined only when `addr + n ≤ BUF_LEN`" (R11), a
read past the end being the fault that R59 rules out. -/
def State.fetchAt {α : Type} (s : State) (a n : Nat) (get : Nat → α) (w : Work) : Res α :=
  if a + n ≤ s.bufLen then .ok (get a) { w with cur := a } else .fault .bufferOverrun

/-- `u8(a)`. -/
def State.u8 (s : State) (a : Nat) (w : Work) : Res Byte := s.fetchAt a 1 s.byte w

/-- `u16(a)`. -/
def State.u16 (s : State) (a : Nat) (w : Work) : Res Word16 := s.fetchAt a 2 s.half w

/-- `u32(a)`. -/
def State.u32 (s : State) (a : Nat) (w : Work) : Res Word32 := s.fetchAt a 4 s.full w

/-- `i16(a) = signed_16(u16(a))`. -/
def State.i16 (s : State) (a : Nat) (w : Work) : Res Int := (s.u16 a w).map signed

/-- `i32(a) = signed_32(u32(a))`. -/
def State.i32 (s : State) (a : Nat) (w : Work) : Res Int := (s.u32 a w).map signed

/-- `BufRead(a, n)` as bytes, for the checksum engine. -/
def State.bufRead (s : State) (a n : Nat) (w : Work) : Res (List Byte) :=
  s.fetchAt a n (fun i => s.bytesAt i n) w

end Sys2Proof.Machine
end

