-- ==== Sys2Proof/Machine/Scan.lean ====
section
/-! DEFINITION. The header scanner (41_header_scan.md) and the operation `SCAN`. -/

namespace Sys2Proof.Machine

open Sys2Proof

/-- R155: the type passes an empty filter, or is a member. -/
def typeAllowed (allowed : List MsgType) (t : MsgType) : Bool :=
  allowed.isEmpty || allowed.contains t

/-- The stages of `SCAN ALLOWED` (R151), its seven lines in order. -/
def scanOp (s : State) (allowed : List MsgType) (w : Work) : Res MessageHeader :=
  if s.bufLen = 0 then .fail .bufferTooShort
  else
    (s.u8 0 w).bind fun b0 w =>
    if b0 ≠ sync then .fail .syncMismatch
    else if s.bufLen < headerSize then .fail .bufferTooShort
    else
      let w := { w with hdr := { w.hdr with preamble := b0 } }
      (s.u16 1 w).bind fun ty w =>
      let w := { w with hdr := { w.hdr with messageType := ty } }
      if !typeAllowed allowed w.hdr.messageType then .fail .typeRejected
      else
        (s.u16 3 w).bind fun sender w =>
        let w := { w with hdr := { w.hdr with senderId := sender } }
        (s.u8 5 w).bind fun len w =>
        let w := { w with hdr := { w.hdr with payloadLength := len } }
        .ok w.hdr w

/-- `SCAN ALLOWED` (R151); a set beyond `MAX_TYPES` is refused (U8). -/
def execScan (allowed : List MsgType) (s : State) : Host.Outcome State Fault Refusal :=
  if s.typesFit allowed then s.run fun w => (scanOp s allowed w).map .header
  else .refused .allowedOverCapacity

end Sys2Proof.Machine
end

