-- ==== Sys2Proof/Machine/Validate.lean ====
section
/-! DEFINITION. The frame validator (42_frame_validate.md) and the operation `VALIDATE`. -/

namespace Sys2Proof.Machine

open Sys2Proof

/-- The stages of `VALIDATE` (R171), its seven lines in order. The length sum is of naturals (R180). -/
def validateOp (s : State) (w : Work) : Res MessageHeader :=
  (scanOp s [] w).bind fun _ w =>
  let len := w.hdr.payloadLength.toNat
  if s.bufLen < headerSize + len + crcSize then .fail .bufferTooShort
  else
    (s.u16 (6 + len) w).bind fun stored w =>
    let w := { w with stored := stored }
    (crc16Op s 1 (len + 5) w).bind fun computed w =>
    let w := { w with computed := computed }
    if w.computed ≠ w.stored then .fail .checksumMismatch
    else .ok w.hdr w

/-- `VALIDATE` (R171). -/
def execValidate (s : State) : Host.Outcome State Fault Refusal :=
  s.run fun w => (validateOp s w).map .header

end Sys2Proof.Machine
end

