-- ==== Sys2Proof/Machine/Baseline.lean ====
section
/-! DEFINITION. The Baseline ECEF decoder (43_baseline_decode.md): the operation `DECBL`. -/

namespace Sys2Proof.Machine

open Sys2Proof

/-- Lines 1 to 3 of `DECBL` (R191): the validator, the type check when it is configured (R192), the length check (R193). -/
def baselineFrame (s : State) (w : Work) : Res Unit :=
  (validateOp s w).bind fun _ w =>
  if s.config.blTypeCheck ∧ w.hdr.messageType ≠ typeBaselineEcef then .fail .typeRejected
  else if w.hdr.payloadLength.toNat ≠ baselineSize then .fail .malformedLength
  else .ok () w

/-- Line 4 of `DECBL` (R191, R194): the seven fields. -/
def baselineFields (s : State) (w : Work) : Res BaselineECEF :=
  (s.u32 6 w).bind fun tow w =>
  (s.i32 10 w).bind fun x w =>
  (s.i32 14 w).bind fun y w =>
  (s.i32 18 w).bind fun z w =>
  (s.u16 22 w).bind fun accuracy w =>
  (s.u8 24 w).bind fun count w =>
  (s.u8 25 w).bind fun flags w =>
  .ok { timeOfWeek := tow, x := x, y := y, z := z, accuracy := accuracy, satelliteCount := count, flags := flags } w

/-- The stages of `DECBL` (R191). -/
def decblOp (s : State) (w : Work) : Res BaselineECEF :=
  (baselineFrame s w).bind fun _ w => baselineFields s w

/-- `DECBL` (R191). -/
def execDecbl (s : State) : Host.Outcome State Fault Refusal :=
  s.run fun w => (decblOp s w).map .baseline

end Sys2Proof.Machine
end

