-- ==== Sys2Proof/Machine/Flags.lean ====
section
/-! DEFINITION. The two bytes of the wire format that are split (30_encoding.md R102): the observation flags byte (R97) and
the fragment nibble pair (R94), both by mask and shift. There are no machine flags (10_state.md R37). -/

namespace Sys2Proof.Machine

open Sys2Proof

/-- The six fields of a flags byte (R97). -/
def unpackFlags (f : Byte) : ObservationFlags :=
  { pseudorangeValid := (f &&& 0x01) != 0
    carrierPhaseValid := (f &&& 0x02) != 0
    halfCycleResolved := (f &&& 0x04) != 0
    dopplerValid := (f &&& 0x08) != 0
    reserved := ((f >>> 4) &&& 0x07).setWidth 3
    raimExcl := (f &&& 0x80) != 0 }

/-- The byte of six fields: `pr | cp<<1 | hc<<2 | dop<<3 | reserved<<4 | raim<<7` (95_test_vectors.md B6). -/
def packFlags (f : ObservationFlags) : Byte :=
  (BitVec.ofBool f.pseudorangeValid).setWidth 8 ||| (BitVec.ofBool f.carrierPhaseValid).setWidth 8 <<< 1 |||
  (BitVec.ofBool f.halfCycleResolved).setWidth 8 <<< 2 ||| (BitVec.ofBool f.dopplerValid).setWidth 8 <<< 3 |||
  f.reserved.setWidth 8 <<< 4 ||| (BitVec.ofBool f.raimExcl).setWidth 8 <<< 7

/-- `nib & 0x0F`. -/
def lowNibble (nib : Byte) : BitVec 4 := (nib &&& 0x0F).setWidth 4

/-- `(nib >> 4) & 0x0F`. -/
def highNibble (nib : Byte) : BitVec 4 := ((nib >>> 4) &&& 0x0F).setWidth 4

/-- `fragment_index` under `FRAG_INDEX_LOW` (R94). -/
def fragmentIndex (indexLow : Bool) (nib : Byte) : BitVec 4 :=
  if indexLow then lowNibble nib else highNibble nib

/-- `fragment_total` under `FRAG_INDEX_LOW` (R94): the other nibble. -/
def fragmentTotal (indexLow : Bool) (nib : Byte) : BitVec 4 :=
  if indexLow then highNibble nib else lowNibble nib

/-- The byte of the two fragment fields under `FRAG_INDEX_LOW` (R94). -/
def packNibbles (indexLow : Bool) (index total : BitVec 4) : Byte :=
  if indexLow then (total ++ index : BitVec 8) else (index ++ total : BitVec 8)

end Sys2Proof.Machine
end

