-- ==== Sys2Proof/Machine/Observation.lean ====
section
/-! DEFINITION. The Observation decoder (44_observation_decode.md): the operation `DECOBS`. -/

namespace Sys2Proof.Machine

open Sys2Proof

/-- R213: the lengths `11 + 17 N`; the subtraction is not taken below 11. -/
def obsLengthLegal (len : Nat) : Bool :=
  decide (obsHdrSize ≤ len) && decide ((len - obsHdrSize) % obsRecSize = 0)

/-- Lines 1 to 4 of `DECOBS` (R211): the validator, the type check (R212), the length check (R213), the record count, from
`payload_length` alone (R214). -/
def obsFrame (s : State) (w : Work) : Res Nat :=
  (validateOp s w).bind fun _ w =>
  if w.hdr.messageType ≠ typeObs then .fail .typeRejected
  else
    let len := w.hdr.payloadLength.toNat
    if !obsLengthLegal len then .fail .malformedLength
    else
      let w := { w with nrec := (len - obsHdrSize) / obsRecSize }
      .ok w.nrec w

/-- Line 5 of `DECOBS` (R211, R215, R216): the header and its nibble pair. -/
def obsHeaderFields (s : State) (w : Work) : Res ObservationHeader :=
  (s.u32 6 w).bind fun tow w =>
  (s.i32 10 w).bind fun residual w =>
  (s.u16 14 w).bind fun week w =>
  (s.u8 16 w).bind fun nib w =>
  .ok { timeOfWeek := tow, residualNanoseconds := residual, weekNumber := week,
        fragmentIndex := fragmentIndex s.config.fragIndexLow nib,
        fragmentTotal := fragmentTotal s.config.fragIndexLow nib } w

/-- The ten fields of the record at base `b` (R211 line 6, R218). -/
def obsRecordFields (s : State) (b : Nat) (w : Work) : Res ObservationRecord :=
  (s.u32 (b + 0) w).bind fun pseudorange w =>
  (s.i32 (b + 4) w).bind fun phase w =>
  (s.u8 (b + 8) w).bind fun phaseFrac w =>
  (s.i16 (b + 9) w).bind fun doppler w =>
  (s.u8 (b + 11) w).bind fun dopplerFrac w =>
  (s.u8 (b + 12) w).bind fun cn0 w =>
  (s.u8 (b + 13) w).bind fun lock w =>
  (s.u8 (b + 14) w).bind fun f w =>
  (s.u8 (b + 15) w).bind fun sat w =>
  (s.u8 (b + 16) w).bind fun code w =>
  .ok { pseudorange := pseudorange, carrierPhaseInt := phase, carrierPhaseFrac := phaseFrac, dopplerInt := doppler,
        dopplerFrac := dopplerFrac, cn0 := cn0, lock := lock, flags := unpackFlags f, satId := sat,
        signalCode := code } w

/-- The `n` records from record `k` on, in increasing order, each at base `17 + 17 k` (R217). -/
def obsRecordsFrom (s : State) (k : Nat) : Nat → Work → Res (List ObservationRecord)
  | 0, w => .ok [] w
  | n + 1, w =>
    (obsRecordFields s (17 + 17 * k) w).bind fun r w =>
    (obsRecordsFrom s (k + 1) n w).bind fun rs w =>
    .ok (r :: rs) w

/-- The stages of `DECOBS` (R211). -/
def decobsOp (s : State) (w : Work) : Res ObservationMessage :=
  (obsFrame s w).bind fun _ w =>
  (obsHeaderFields s w).bind fun h w =>
  (obsRecordsFrom s 0 w.nrec w).bind fun rs w =>
  .ok { header := h, records := rs } w

/-- `DECOBS` (R211). -/
def execDecobs (s : State) : Host.Outcome State Fault Refusal :=
  s.run fun w => (decobsOp s w).map .observations

end Sys2Proof.Machine
end

