-- ==== Sys2Proof/Machine/Formats.lean ====
section
/-! DEFINITION. The six rows of the table that are wire formats (30_encoding.md R112). A frame kind is decoded by the
operation its rule names; a payload layout is the stage of that operation its rule names, after the stages before it
(60_exceptions.md R245). DESIGN CHOICE (log 8, log 9): the host has no command for any of them. -/

namespace Sys2Proof.Machine

open Sys2Proof

/-- `MSG_OBS` (R211): the frame goes through the Observation decoder. -/
def execMsgObs (s : State) : Host.Outcome State Fault Refusal :=
  s.run fun w => (decobsOp s w).map .observations

/-- `MSG_BASELINE_ECEF` (R191): the frame goes through the Baseline decoder. -/
def execMsgBaselineEcef (s : State) : Host.Outcome State Fault Refusal :=
  s.run fun w => (decblOp s w).map .baseline

/-- `MSG_OTHER` (R171): no decoder knows the type, so the frame is validated and its header returned (R105). -/
def execMsgOther (s : State) : Host.Outcome State Fault Refusal :=
  s.run fun w => (validateOp s w).map .header

/-- `OBSHDR` (R215): the 11 bytes at payload offset 0 of a certified Observation frame. -/
def execObshdr (s : State) : Host.Outcome State Fault Refusal :=
  s.run fun w =>
    (obsFrame s w).bind fun _ w =>
    (obsHeaderFields s w).map .obsHeader

/-- `OBSREC` (R217): the 17-byte records of a certified Observation frame, "that many" as `NREC` says, in wire order. -/
def execObsrec (s : State) : Host.Outcome State Fault Refusal :=
  s.run fun w =>
    (obsFrame s w).bind fun _ w =>
    (obsRecordsFrom s 0 w.nrec w).map .obsRecords

/-- `BLECEF` (R194): the 20 bytes at payload offset 0 of a certified Baseline frame. -/
def execBlecef (s : State) : Host.Outcome State Fault Refusal :=
  s.run fun w =>
    (baselineFrame s w).bind fun _ w =>
    (baselineFields s w).map .baseline

/-- A buffer that matches no `FRAME` row goes no further than the header scanner, whose failure is the response (R82, R245).
DEDUCED (log 10). -/
def execNoFrame (s : State) : Host.Outcome State Fault Refusal :=
  s.run fun w => (scanOp s [] w).map .header

end Sys2Proof.Machine
end

