-- ==== Sys2Proof/Machine/Dispatch.lean ====
section
/-! DEFINITION. One arm per constructor of `Instr`: the meaning it has. -/

namespace Sys2Proof.Machine

open Sys2Proof

def exec (i : Instr) (s : State) : Host.Outcome State Fault Refusal :=
  match i with
  -- the host's operations (30_encoding.md R110)
  | .crc16 off len => Sys2Proof.Machine.execCrc16 off len s
  | .scan allowed => Sys2Proof.Machine.execScan allowed s
  | .validate => Sys2Proof.Machine.execValidate s
  | .decbl => Sys2Proof.Machine.execDecbl s
  | .decobs => Sys2Proof.Machine.execDecobs s
  -- the frame kinds (R112)
  | .msgObs => Sys2Proof.Machine.execMsgObs s
  | .msgBaselineEcef => Sys2Proof.Machine.execMsgBaselineEcef s
  | .msgOther => Sys2Proof.Machine.execMsgOther s
  -- the payload layouts (R90, R95, R99)
  | .obshdr => Sys2Proof.Machine.execObshdr s
  | .obsrec => Sys2Proof.Machine.execObsrec s
  | .blecef => Sys2Proof.Machine.execBlecef s

end Sys2Proof.Machine
end

