-- ==== Sys2Proof/WellFormed.lean ====
section
/-! DEFINITION. Which instruction terms are well formed: `ALLOWED` is a set, held in its one canonical form. -/

namespace Sys2Proof

/-- A list of codes in strictly rising order: the one canonical list of a finite set, so that "order and repetition of
members have no meaning" (10_state.md R22). -/
def strictlyRising : List MsgType → Bool
  | [] => true
  | [_] => true
  | a :: b :: rest => decide (a.toNat < b.toNat) && strictlyRising (b :: rest)

/-- Every operand value of every instruction is legal (10_state.md R21 to R23) but for the form of `ALLOWED`. -/
def Instr.wellFormed : Instr → Bool
  | .crc16 _ _ => true
  | .scan allowed => strictlyRising allowed
  | .validate => true
  | .decbl => true
  | .decobs => true
  | .msgObs => true
  | .msgBaselineEcef => true
  | .msgOther => true
  | .obshdr => true
  | .obsrec => true
  | .blecef => true

end Sys2Proof
end

