-- ==== Sys2Proof/Decode.lean ====
section
/-! DEFINITION. Decoding a port word, total on any bytes and rejecting by name, and the encoder written from the same
tables (30_encoding.md R110, R112). -/

namespace Sys2Proof

/-- Why a word decodes to no instruction. -/
inductive DecodeError where
  /-- `CMD` = 5, 6 or 7: "a reserved code names no operation" (R110, U6). -/
  | reservedCommand (code : BitVec 3)
  /-- No `FRAME` row matches: there is no first byte, or it is not the sync value (R82, R112). -/
  | noFrame
deriving DecidableEq, Repr

/-! ## ALLOWED as a set -/

/-- Put one code into a strictly rising list. -/
def insertType (t : MsgType) : List MsgType → List MsgType
  | [] => [t]
  | u :: rest =>
    if t = u then u :: rest
    else if t.toNat < u.toNat then t :: u :: rest
    else u :: insertType t rest

/-- The set that a list of codes stands for, in canonical form (10_state.md R22: order and repetition mean nothing). -/
def typeSet (ts : List MsgType) : List MsgType := ts.foldr insertType []

/-! ## Command words -/

/-- `CMD[2:0]` of the byte that carries it (R110, R112: mask 0x7). -/
def commandCode (bytes : List Byte) : BitVec 3 :=
  match bytes with
  | [] => 0
  | b :: _ => b.extractLsb' 0 3

/-- The operation of a command code with its operands (R110). -/
def decodeCommand (code : BitVec 3) (p : PortWord) : Except DecodeError Instr :=
  match code.toNat with
  | 0 => .ok (.crc16 p.off p.len)
  | 1 => .ok (.scan (typeSet p.allowed))
  | 2 => .ok .validate
  | 3 => .ok .decbl
  | 4 => .ok .decobs
  | _ => .error (.reservedCommand code)

/-! ## Frame words -/

/-- The low 24 bits of the header word `H`: `BUF[0] | BUF[1] << 8 | BUF[2] << 16` (R112), a byte that is not there
counting 0. -/
def headWord (bytes : List Byte) : BitVec 24 :=
  (bytes.getD 0 0).setWidth 24 ||| (bytes.getD 1 0).setWidth 24 <<< 8 ||| (bytes.getD 2 0).setWidth 24 <<< 16

/-- One `FRAME` row of the table: its match, its mask and its instruction. -/
structure FrameRow where
  bits : BitVec 24
  mask : BitVec 24
  instr : Instr
deriving DecidableEq, Repr

/-- The three `FRAME` rows, in the order R112 tries them: the two specific kinds first. -/
def frameRows : List FrameRow :=
  [ { bits := 0x004A55, mask := 0xFFFFFF, instr := .msgObs },
    { bits := 0x020255, mask := 0xFFFFFF, instr := .msgBaselineEcef },
    { bits := 0x000055, mask := 0x0000FF, instr := .msgOther } ]

/-- The kind of the frame that these bytes begin (R84, R112). -/
def decodeFrame (bytes : List Byte) : Except DecodeError Instr :=
  match frameRows.find? (fun r => headWord bytes &&& r.mask == r.bits) with
  | some r => .ok r.instr
  | none => .error .noFrame

/-- The instruction of a port word. The layout rows have match = mask = 0: they are chosen by the port alone (R112). -/
def decode (p : PortWord) : Except DecodeError Instr :=
  match p.port with
  | .command => decodeCommand (commandCode p.bytes) p
  | .frame => decodeFrame p.bytes
  | .obsHeader => .ok .obshdr
  | .obsRecords => .ok .obsrec
  | .baseline => .ok .blecef

/-! ## The encoder -/

/-- The command word of a code, with operands. -/
def commandWord (code : Byte) (off len : Nat) (allowed : List MsgType) : PortWord :=
  { port := .command, bytes := [code], off := off, len := len, allowed := allowed }

/-- A word of another port: no operands beside it. -/
def formatWord (port : Port) (bytes : List Byte) : PortWord :=
  { port := port, bytes := bytes, off := 0, len := 0, allowed := [] }

/-- The word of an instruction: a command's code and operands (R110); the bytes a frame kind fixes (R84, R112). -/
def encode : Instr → PortWord
  | .crc16 off len => commandWord 0 off len []
  | .scan allowed => commandWord 1 0 0 allowed
  | .validate => commandWord 2 0 0 []
  | .decbl => commandWord 3 0 0 []
  | .decobs => commandWord 4 0 0 []
  | .msgObs => formatWord .frame [0x55, 0x4A, 0x00]
  | .msgBaselineEcef => formatWord .frame [0x55, 0x02, 0x02]
  | .msgOther => formatWord .frame [0x55]
  | .obshdr => formatWord .obsHeader []
  | .obsrec => formatWord .obsRecords []
  | .blecef => formatWord .baseline []

/-! ## Words as spec/opcode_table.json numbers them -/

/-- The `n` bytes of a word, byte 0 (bits 7..0) first (R80). -/
def wordBytes (n w : Nat) : List Byte :=
  (List.range n).map fun j => BitVec.ofNat 8 (w / 256 ^ j)

/-- The port a table word belongs to. A payload layout is known by its length alone, 88, 136 or 160 bits (R80); a word
whose first byte is the sync value is a frame; any other word is a command byte (log 14). The sync value's low three bits
are 5, a reserved code, so no word is both. -/
def tablePort (nbits w : Nat) : Port :=
  if nbits = 88 then .obsHeader
  else if nbits = 136 then .obsRecords
  else if nbits = 160 then .baseline
  else if w % 256 = 0x55 then .frame
  else .command

/-- A table word as the hardware stores it, every bit above `nbits` 0. -/
def tableWord (nbits w : Nat) : PortWord :=
  formatWord (tablePort nbits w) (wordBytes ((nbits + 7) / 8) (w % 2 ^ nbits))

/-- The instruction the decoder reads from a word numbered as spec/opcode_table.json numbers it. -/
def decodeTableWord (nbits w : Nat) : Option Instr :=
  (decode (tableWord nbits w)).toOption

end Sys2Proof
end

