-- ==== Sys2Proof/Machine/HostPort.lean ====
section
/-! DEFINITION. The edge between the host and the core: what word stands at the core's port, how the host presents a
request, and how it resets the core. -/

namespace Sys2Proof.Machine

open Sys2Proof

/-- The bytes of `BUF` that choose a frame kind: as many of `BUF[0..2]` as there are (30_encoding.md R112). -/
def State.headBytes (s : State) : List Byte := s.bytesAt 0 (min 3 s.bufLen)

/-- The word at the core's port; `none` when the core is idle (R38). -/
def State.fetch (s : State) : Option PortWord :=
  match s.request with
  | none => none
  | some .command => some { port := .command, bytes := [s.cmd.setWidth 8], off := s.off, len := s.len, allowed := s.allowed }
  | some .frame => some (formatWord .frame s.headBytes)
  | some .obsHeader => some (formatWord .obsHeader [])
  | some .obsRecords => some (formatWord .obsRecords [])
  | some .baseline => some (formatWord .baseline [])

/-- One request of the host: a buffer and everything that stands beside it, all supplied together (R285). -/
structure Request where
  port : Port
  cmd : BitVec 3
  off : Nat
  len : Nat
  allowed : List MsgType
  bytes : List Byte
deriving DecidableEq, Repr

/-- The host presents a request. -/
def State.present (s : State) (r : Request) : State :=
  { s.loadBuffer r.bytes with
    request := some r.port, cmd := r.cmd, off := r.off, len := r.len, allowed := r.allowed }

/-- The host resets the core (70_reset_and_hazards.md R280, R282): idle, no response; an operation at the port is abandoned
and delivers none. The configuration stays (R39) and so do the host's operands, which are no state of the core (R38); the
working registers are unspecified. DEDUCED (log 22). -/
def State.coreReset (s : State) : State :=
  { s with request := none, rsp := none, work := Work.unspecified s.draws, draws := s.draws + 1 }

/-! ## Frames as bytes: what a host would load

No operation builds a frame (00_scope.md R5); these are for loads by the host and for statements (log 18). -/

/-- A 16-bit value on the wire: low byte, high byte (R52). -/
def bytes16 (v : Word16) : List Byte := [v.extractLsb' 0 8, v.extractLsb' 8 8]

/-- A 32-bit value on the wire, least significant byte first (R52). -/
def bytes32 (v : Word32) : List Byte :=
  [v.extractLsb' 0 8, v.extractLsb' 8 8, v.extractLsb' 16 8, v.extractLsb' 24 8]

/-- A signed 32-bit value on the wire (R101). -/
def bytesI32 (v : Int) : List Byte := bytes32 (BitVec.ofInt 32 v)

/-- A signed 16-bit value on the wire (R101). -/
def bytesI16 (v : Int) : List Byte := bytes16 (BitVec.ofInt 16 v)

/-- The bytes a frame's checksum covers: type, sender, length, payload (R86, 42_frame_validate.md R174). -/
def coveredBytes (ty : MsgType) (sender : Word16) (payload : List Byte) : List Byte :=
  bytes16 ty ++ bytes16 sender ++ [BitVec.ofNat 8 payload.length] ++ payload

/-- The frame of a type, a sender and a payload, with its checksum (R57, R81, R85, R86). -/
def frameBytes (ty : MsgType) (sender : Word16) (payload : List Byte) : List Byte :=
  sync :: coveredBytes ty sender payload ++ bytes16 (crcOf (coveredBytes ty sender payload))

/-- A word's bytes padded with zero bytes to a length. -/
def padTo (n : Nat) (bytes : List Byte) : List Byte := bytes ++ List.replicate (n - bytes.length) 0

/-- The buffer a host loads so that a word stands where its port reads it: a frame word at index 0, padded with zeros to the
length its own length byte gives the frame (R85); a layout word in the payload of a certified frame of its kind (log 11). -/
def hostBuffer (port : Port) (bytes : List Byte) : List Byte :=
  match port with
  | .command => []
  | .frame => padTo (headerSize + (bytes.getD 5 0).toNat + crcSize) bytes
  | .obsHeader => frameBytes typeObs 0 (padTo obsHdrSize bytes)
  | .obsRecords => frameBytes typeObs 0 (List.replicate obsHdrSize 0 ++ padTo obsRecSize bytes)
  | .baseline => frameBytes typeBaselineEcef 0 (padTo baselineSize bytes)

/-- The host puts a port word where the next step takes it. A command word goes on the command port with its operands and
leaves `BUF` as it is; a format word goes into `BUF`. -/
def State.place (s : State) (p : PortWord) : State :=
  match p.port with
  | .command =>
    { s with request := some .command, cmd := commandCode p.bytes, off := p.off, len := p.len, allowed := p.allowed }
  | port => { s.loadBuffer (hostBuffer port p.bytes) with request := some port }

end Sys2Proof.Machine
end

