-- ==== Sys2Proof/Machine/Step.lean ====
section
/-! DEFINITION. One step: take the request at the port, decode it, run it as one atomic operation (00_scope.md R3). -/

namespace Sys2Proof.Machine

open Sys2Proof

/-- An idle core stays as it is (R38; DESIGN CHOICE, log 12); a reserved command code is refused (30_encoding.md R110, U6);
a buffer that holds no frame gets the scanner's failure (R82); any other word is its instruction's meaning. -/
def step (s : State) : Host.Outcome State Fault Refusal :=
  match s.fetch with
  | none => .next s
  | some p =>
    match decode p with
    | .ok i => exec i s
    | .error (.reservedCommand code) => .refused (.reservedCommand code)
    | .error .noFrame => execNoFrame s

/-- The state with a table word placed where the next step takes its instruction (log 11). -/
def State.withFetchWord (s : State) (nbits w : Nat) : State :=
  s.place (tableWord nbits w)

end Sys2Proof.Machine
end

