-- ==== Sys2Proof/Machine/Program.lean ====
section
/-! DEFINITION. A program as the spec has it: "a sequence of operations issued by the host, with the buffer it loads before
each"; "the end state of a program is the list of responses" (95_test_vectors.md part C). -/

namespace Sys2Proof.Machine

open Sys2Proof

/-- The responses to a sequence of requests, one step each; `none` where the machine stops instead of responding, after which
the host goes on with the core as it was. -/
def runProgram (s : State) : List Request → List (Option Response)
  | [] => []
  | r :: rest =>
    match step (s.present r) with
    | .next t => t.rsp :: runProgram t rest
    | .fault _ => none :: runProgram s rest
    | .refused _ => none :: runProgram s rest

end Sys2Proof.Machine
end

