-- ==== Sys2Proof/Safety.lean ====
section
/-! DEFINITION. The terms claims are made in: what a frame in `BUF` is, which records its bytes stand for, what it is for an
instruction to answer, and the invariant of the machine. -/

namespace Sys2Proof.Machine

open Sys2Proof

/-! ## The frame at BUF index 0, read off the layout tables -/

/-- `len` = `payload_length`, the byte at index 5 (20_memory.md R57). -/
def State.payloadLen (s : State) : Nat := (s.byte 5).toNat

/-- The four fields of `BUF[0..5]` (30_encoding.md R81). -/
def State.header (s : State) : MessageHeader :=
  { preamble := s.byte 0, messageType := s.half 1, senderId := s.half 3, payloadLength := s.byte 5 }

/-- The checksum of `BUF[1 .. 6+len)` (42_frame_validate.md R174). -/
def State.computedChecksum (s : State) : Word16 := crcOf (s.bytesAt 1 (s.payloadLen + 5))

/-- The number in the trailer (30_encoding.md R86). -/
def State.storedChecksum (s : State) : Word16 := s.half (6 + s.payloadLen)

/-- `BUF` begins with "one complete, uncorrupted frame" (42_frame_validate.md R170). -/
def State.certified (s : State) : Bool :=
  decide (s.byte 0 = sync) && decide (8 + s.payloadLen ≤ s.bufLen) && decide (s.computedChecksum = s.storedChecksum)

/-- The Baseline payload of the frame (20_memory.md R58, 30_encoding.md R99). -/
def State.baselineRecord (s : State) : BaselineECEF :=
  { timeOfWeek := s.full 6, x := signed (s.full 10), y := signed (s.full 14), z := signed (s.full 18),
    accuracy := s.half 22, satelliteCount := s.byte 24, flags := s.byte 25 }

/-- The ObservationHeader of the frame (R58, 30_encoding.md R90, R94). -/
def State.observationHeader (s : State) : ObservationHeader :=
  { timeOfWeek := s.full 6, residualNanoseconds := signed (s.full 10), weekNumber := s.half 14,
    fragmentIndex := fragmentIndex s.config.fragIndexLow (s.byte 16),
    fragmentTotal := fragmentTotal s.config.fragIndexLow (s.byte 16) }

/-- ObservationRecord `k` of the frame, at base `17 + 17 k` (R58, 30_encoding.md R95). -/
def State.observationRecord (s : State) (k : Nat) : ObservationRecord :=
  let b := 17 + 17 * k
  { pseudorange := s.full b, carrierPhaseInt := signed (s.full (b + 4)), carrierPhaseFrac := s.byte (b + 8),
    dopplerInt := signed (s.half (b + 9)), dopplerFrac := s.byte (b + 11), cn0 := s.byte (b + 12), lock := s.byte (b + 13),
    flags := unpackFlags (s.byte (b + 14)), satId := s.byte (b + 15), signalCode := s.byte (b + 16) }

/-- The first `n` records, in wire order. -/
def State.observationRecords (s : State) (n : Nat) : List ObservationRecord :=
  (List.range n).map s.observationRecord

/-! ## The fixed order of tests (60_exceptions.md R246) -/

/-- The failure the scanner's tests end in, if they end in one (R151, R246 orders 1 to 4). -/
def State.scanFailure (s : State) (allowed : List MsgType) : Option Failure :=
  if s.bufLen = 0 then some .bufferTooShort
  else if s.byte 0 ≠ sync then some .syncMismatch
  else if s.bufLen < 6 then some .bufferTooShort
  else if typeAllowed allowed (s.half 1) then none
  else some .typeRejected

/-- The failure the validator's tests end in, if they end in one (R171, R246 orders 1 to 3, 5, 6). -/
def State.frameFailure (s : State) : Option Failure :=
  if s.bufLen = 0 then some .bufferTooShort
  else if s.byte 0 ≠ sync then some .syncMismatch
  else if s.bufLen < 6 then some .bufferTooShort
  else if s.bufLen < 8 + s.payloadLen then some .bufferTooShort
  else if s.computedChecksum = s.storedChecksum then none
  else some .checksumMismatch

/-- The failure that lines 1 to 3 of `DECBL` end in, if they end in one (R191, R246). -/
def State.baselineFailure (s : State) : Option Failure :=
  match s.frameFailure with
  | some f => some f
  | none =>
    if s.config.blTypeCheck = true ∧ s.half 1 ≠ typeBaselineEcef then some .typeRejected
    else if s.payloadLen ≠ 20 then some .malformedLength
    else none

/-- The failure that lines 1 to 4 of `DECOBS` end in, if they end in one (R211, R246). -/
def State.obsFailure (s : State) : Option Failure :=
  match s.frameFailure with
  | some f => some f
  | none =>
    if s.half 1 ≠ typeObs then some .typeRejected
    else if s.payloadLen < 11 ∨ (s.payloadLen - 11) % 17 ≠ 0 then some .malformedLength
    else none

/-- `NREC` of the frame (R214). -/
def State.recordCount (s : State) : Nat := (s.payloadLen - 11) / 17

/-- The response of tests that end in a failure, or in none (00_scope.md R12). -/
def verdict (f : Option Failure) (v : Value) : Response :=
  match f with
  | some f => .fail f
  | none => .ok v

/-- One data byte taken bit by bit, with no table (40_checksum.md R136). -/
def crcBitStep (acc : Word16) (b : Byte) : Word16 :=
  crcShift8 (acc ^^^ (b.setWidth 16 <<< 8))

/-- The checksum of a byte sequence, bit by bit. -/
def crcBitwise (bytes : List Byte) : Word16 := bytes.foldl crcBitStep 0

/-! ## Records as payload bytes (R90, R95, R99); for statements only (log 18) -/

/-- The 20 bytes of a Baseline payload (R99). -/
def baselinePayload (r : BaselineECEF) : List Byte :=
  bytes32 r.timeOfWeek ++ bytesI32 r.x ++ bytesI32 r.y ++ bytesI32 r.z ++ bytes16 r.accuracy ++ [r.satelliteCount, r.flags]

/-- The 11 bytes of an ObservationHeader (R90, R94). -/
def observationHeaderBytes (indexLow : Bool) (h : ObservationHeader) : List Byte :=
  bytes32 h.timeOfWeek ++ bytesI32 h.residualNanoseconds ++ bytes16 h.weekNumber ++
    [packNibbles indexLow h.fragmentIndex h.fragmentTotal]

/-- The 17 bytes of an ObservationRecord (R95, R97). -/
def observationRecordBytes (r : ObservationRecord) : List Byte :=
  bytes32 r.pseudorange ++ bytesI32 r.carrierPhaseInt ++ [r.carrierPhaseFrac] ++ bytesI16 r.dopplerInt ++
    [r.dopplerFrac, r.cn0, r.lock, packFlags r.flags, r.satId, r.signalCode]

/-- The payload of an ObservationMessage: the header, then the records in order (30_encoding.md R84). -/
def observationPayload (indexLow : Bool) (m : ObservationMessage) : List Byte :=
  observationHeaderBytes indexLow m.header ++ m.records.flatMap observationRecordBytes

/-! ## Legal values of the output records -/

/-- The range of an `n`-bit signed field (30_encoding.md R101). -/
def inRange (n : Nat) (v : Int) : Bool := decide (-2 ^ (n - 1) ≤ v) && decide (v < 2 ^ (n - 1))

/-- The signed fields of a Baseline are i32. -/
def BaselineECEF.wf (r : BaselineECEF) : Bool := inRange 32 r.x && inRange 32 r.y && inRange 32 r.z

/-- The signed fields of a record are i32 and i16. -/
def ObservationRecord.wf (r : ObservationRecord) : Bool := inRange 32 r.carrierPhaseInt && inRange 16 r.dopplerInt

/-- The signed field of the header is i32. -/
def ObservationHeader.wf (h : ObservationHeader) : Bool := inRange 32 h.residualNanoseconds

/-- At most 14 records, each legal (10_state.md R33). -/
def obsRecordsWf (rs : List ObservationRecord) : Bool := decide (rs.length ≤ maxObsRecords) && rs.all ObservationRecord.wf

/-- What a response may be: every MessageHeader returned has preamble 0x55 (R29), every signed field is in its range
(R101), there are at most 14 records (R33). -/
def Response.wf : Response → Bool
  | .ok (.checksum _) => true
  | .ok (.header h) => h.preamble == sync
  | .ok (.baseline b) => b.wf
  | .ok (.observations m) => m.header.wf && obsRecordsWf m.records
  | .ok (.obsHeader h) => h.wf
  | .ok (.obsRecords rs) => obsRecordsWf rs
  | .fail _ => true

/-! ## What a step may change -/

/-- `t` is `s` after the response `r` and nothing else: the core is idle again; every byte of `BUF`, `BUF_LEN`, the operands
and the configuration are as before (20_memory.md R56, 10_state.md R39). The working registers keep nothing (R26) and are
left out, as is the model's counter. -/
structure AnsweredBy (s t : State) (r : Response) : Prop where
  rsp : t.rsp = some r
  idle : t.request = none
  bytes : ∀ a, t.buf.read a = s.buf.read a
  bufLen : t.bufLen = s.bufLen
  cmd : t.cmd = s.cmd
  off : t.off = s.off
  len : t.len = s.len
  allowed : t.allowed = s.allowed
  config : t.config = s.config

/-- The instruction completes on this state: it answers a next state with the response `r`, changing nothing else. -/
def Answers (i : Instr) (s : State) (r : Response) : Prop :=
  ∃ t, exec i s = .next t ∧ AnsweredBy s t r

/-- The response of an outcome. -/
def responseOf (o : Host.Outcome State Fault Refusal) : Option Response :=
  match o with
  | .next t => t.rsp
  | .fault _ => none
  | .refused _ => none

/-- Two states with the same operands, buffer bytes and configuration: all that a response may depend on (10_state.md
R20). -/
structure SameOperands (s t : State) : Prop where
  request : s.request = t.request
  cmd : s.cmd = t.cmd
  off : s.off = t.off
  len : s.len = t.len
  allowed : s.allowed = t.allowed
  bufLen : s.bufLen = t.bufLen
  bytes : ∀ a, a < s.bufLen → s.buf.read a = t.buf.read a
  config : s.config = t.config

/-! ## The invariant -/

/-- `BUF` is in canonical form and lists no byte beyond `BUF_LEN`; the configuration is one R7 allows; `NREC` is in 0..14
(10_state.md R26); a response that stands is a legal one. -/
def State.inv (s : State) : Bool :=
  s.buf.wf && s.buf.all (fun c => decide (c.1 < s.bufLen)) && s.config.wf && decide (s.work.nrec ≤ maxObsRecords) &&
  (match s.rsp with
    | none => true
    | some r => r.wf)

end Sys2Proof.Machine
end

