-- ==== Sys2Proof/Certificates/Slice0/Obligations.lean ====
section
/-! DEFINITION. The statements for the provers: what the block and its operations do, by the rules of spec/.
`Answers i s r` (Safety.lean) says that `exec i s` is a next state whose response is `r` and which is `s` in every byte of
`BUF`, in `BUF_LEN`, in the operands and in the configuration; the core is idle again, and the working registers, which the
spec leaves unspecified between operations, are not constrained. Where a statement ranges over all instructions, the six
format rows are among them; that they can be run is the model's choice (log 8, log 9). -/

open Sys2Proof Sys2Proof.Machine

/-! ## Decoding -/

/-- Every well-formed instruction, with every operand, is what its encoding decodes to (30_encoding.md R110, R112). -/
def Obligations.DecodeEncodeRoundTrip : Prop :=
  ∀ i : Instr, i.wellFormed = true → decode (encode i) = .ok i

/-- The decoder gives well-formed instructions only: `ALLOWED` comes out as a set in canonical form (10_state.md R22). -/
def Obligations.DecodedInstructionsAreWellFormed : Prop :=
  ∀ (p : PortWord) (i : Instr), decode p = .ok i → i.wellFormed = true

/-- "Because it is a set, order and repetition of members have no meaning" (10_state.md R22): two command words whose
`ALLOWED` lists have the same members decode alike. -/
def Obligations.AllowedOperandIsASet : Prop :=
  ∀ (p : PortWord) (a b : List MsgType), (∀ t, t ∈ a ↔ t ∈ b) →
    decode { p with allowed := a } = decode { p with allowed := b }

/-- The words of spec/opcode_table.json decode to their rows; a payload layout is known by its length (R80, R112), which is
the model's choice (log 9). -/
def Obligations.TableWordsDecodeToTheirRows : Prop :=
  decodeTableWord 8 0x0 = some (.crc16 0 0) ∧ decodeTableWord 8 0x1 = some (.scan []) ∧
  decodeTableWord 8 0x2 = some .validate ∧ decodeTableWord 8 0x3 = some .decbl ∧ decodeTableWord 8 0x4 = some .decobs ∧
  decodeTableWord 24 0x004A55 = some .msgObs ∧ decodeTableWord 24 0x020255 = some .msgBaselineEcef ∧
  decodeTableWord 24 0x000055 = some .msgOther ∧ decodeTableWord 88 0 = some .obshdr ∧
  decodeTableWord 136 0 = some .obsrec ∧ decodeTableWord 160 0 = some .blecef

/-- A step runs the instruction that the word at the port decodes to; an idle core stays as it is, which is the model's
choice (log 12). -/
def Obligations.StepRunsTheDecodedInstruction : Prop :=
  (∀ (s : State) (p : PortWord) (i : Instr), s.fetch = some p → decode p = .ok i → step s = exec i s) ∧
  (∀ s : State, s.request = none → step s = .next s)

/-- The command codes of 30_encoding.md R110: each names its operation, with the operands that stand beside it. The numbers
are the spec's own decision (D3). -/
def Obligations.CommandCodesSelectTheOperations : Prop :=
  ∀ s : State, s.request = some .command →
    (s.cmd = 0 → step s = exec (.crc16 s.off s.len) s) ∧
    (s.cmd = 1 → step s = exec (.scan (typeSet s.allowed)) s) ∧
    (s.cmd = 2 → step s = exec .validate s) ∧
    (s.cmd = 3 → step s = exec .decbl s) ∧
    (s.cmd = 4 → step s = exec .decobs s)

/-- "A reserved code names no operation; the host must not issue it, and a model refuses it" (30_encoding.md R110): codes 5,
6 and 7 and no others. -/
def Obligations.ReservedCommandsAreRefusedByName : Prop :=
  ∀ s : State, s.request = some .command →
    (step s = .refused (.reservedCommand s.cmd) ↔ 5 ≤ s.cmd.toNat)

/-- A frame at the port is taken by its kind: "a decoder tries the two specific rows first" (30_encoding.md R112). That a
frame can stand at the port is the model's choice (log 8). -/
def Obligations.FrameKindSelectsTheDecoder : Prop :=
  ∀ s : State, s.request = some .frame → 3 ≤ s.bufLen → s.byte 0 = 0x55 →
    step s = exec (if s.half 1 = 0x004A then .msgObs else if s.half 1 = 0x0202 then .msgBaselineEcef else .msgOther) s

/-- A buffer that holds no frame at index 0 ends in the header scanner, the first stage of the data flow: what it answers is
the scanner's failure (41_header_scan.md R152, R153; an empty buffer's failure is the spec's own decision D11). That a frame
can stand at the port is the model's choice (log 8, log 10). -/
def Obligations.NoFrameEndsInTheScanner : Prop :=
  ∀ s : State, s.request = some .frame → s.bufFits = true →
    (s.bufLen = 0 → ∃ t, step s = .next t ∧ AnsweredBy s t (.fail .bufferTooShort)) ∧
    (1 ≤ s.bufLen → s.byte 0 ≠ 0x55 → ∃ t, step s = .next t ∧ AnsweredBy s t (.fail .syncMismatch))

/-! ## The checksum engine -/

/-- The ROM holds 256 entries, each the one that the generating rule of 40_checksum.md R131 gives; the spec marks that rule as
general knowledge (G1). -/
def Obligations.CrcTableIsGenerated : Prop :=
  crcRom.flatten.length = 256 ∧ ∀ i : Byte, crcTable i = crcGenerated i

/-- "The table is linear over XOR" (40_checksum.md R132, which the spec marks as its own derivation). -/
def Obligations.CrcTableIsLinear : Prop :=
  ∀ a b : Byte, crcTable (a ^^^ b) = crcTable a ^^^ crcTable b

/-- The table step and the bit-by-bit step give the same accumulator, for every accumulator and byte (40_checksum.md R136,
which the spec marks as its own derivation). -/
def Obligations.TableStepIsBitwiseStep : Prop :=
  ∀ (acc : Word16) (b : Byte), crcStep acc b = crcBitStep acc b

/-- The accumulators of 40_checksum.md R138 over the nine ASCII digits, ending in 0x31C3 (which the spec marks as derived). -/
def Obligations.NineDigitsGiveTheCheckValue : Prop :=
  ([0x31, 0x32, 0x33, 0x34, 0x35, 0x36, 0x37, 0x38, 0x39] : List Byte).scanl crcStep 0 =
    [0x0000, 0x2672, 0x20B5, 0x9752, 0xD789, 0x546C, 0x20E4, 0x86D6, 0x9015, 0x31C3]

/-- `CRC16` on a range inside the buffer answers the polynomial checksum of its bytes, taken bit by bit, and changes nothing
else (40_checksum.md R133, R135, R136). -/
def Obligations.Crc16AnswersThePolynomialChecksum : Prop :=
  ∀ (off len : Nat) (s : State), s.bufFits = true → off + len ≤ s.bufLen →
    Answers (.crc16 off len) s (.ok (.checksum (crcBitwise (s.bytesAt off len))))

/-- `CRC16` on a range that leaves the buffer fails with `BufferTooShort`; the validator's own range never does
(40_checksum.md R134; the failure is the spec's own decision D14). -/
def Obligations.Crc16OutsideTheBufferFails : Prop :=
  (∀ (off len : Nat) (s : State), s.bufFits = true → s.bufLen < off + len →
    Answers (.crc16 off len) s (.fail .bufferTooShort)) ∧
  (∀ s : State, 8 + s.payloadLen ≤ s.bufLen → 1 + (s.payloadLen + 5) ≤ s.bufLen)

/-- The three properties that follow from the initial value 0: leading zero bytes do not count, the checksum is linear over
XOR on ranges of one length, and the checksum appended high byte first leaves residue 0 (40_checksum.md R139, which the spec
marks as its own derivation). -/
def Obligations.ChecksumZerosLinearityResidue : Prop :=
  (∀ (n : Nat) (m : List Byte), crcOf (List.replicate n 0 ++ m) = crcOf m) ∧
  (∀ a b : List Byte, a.length = b.length → crcOf (List.zipWith (· ^^^ ·) a b) = crcOf a ^^^ crcOf b) ∧
  (∀ m : List Byte, crcOf (m ++ [(crcOf m).extractLsb' 8 8, (crcOf m).extractLsb' 0 8]) = 0)

/-- "If two ranges of the same length differ in exactly one byte, their checksums differ" (40_checksum.md R140, which the
spec marks as its own derivation). -/
def Obligations.SingleByteErrorsChangeTheChecksum : Prop :=
  ∀ (front back : List Byte) (x y : Byte), x ≠ y → crcOf (front ++ x :: back) ≠ crcOf (front ++ y :: back)

/-! ## The header scanner -/

/-- `SCAN` ends in the first of its tests that fails, in the order of 41_header_scan.md R151, or in the header; the order is
the spec's own decision D11. -/
def Obligations.ScanEndsInItsFirstFailingTest : Prop :=
  ∀ (allowed : List MsgType) (s : State), s.bufFits = true → s.typesFit allowed = true →
    Answers (.scan allowed) s
      (if s.bufLen = 0 then .fail .bufferTooShort
       else if s.byte 0 ≠ 0x55 then .fail .syncMismatch
       else if s.bufLen < 6 then .fail .bufferTooShort
       else if allowed ≠ [] ∧ s.half 1 ∉ allowed then .fail .typeRejected
       else .ok (.header { preamble := s.byte 0, messageType := s.half 1, senderId := s.half 3, payloadLength := s.byte 5 }))

/-- "On success returns the fully decoded header (all four fields)" (41_header_scan.md R156): for every buffer of at least six
bytes that begins with the sync value and a type the filter lets through, `preamble` (always 0x55), `message_type`,
`sender_id`, `payload_length`. -/
def Obligations.ScanReturnsTheWholeHeader : Prop :=
  ∀ (allowed : List MsgType) (s : State), s.bufFits = true → s.typesFit allowed = true → 6 ≤ s.bufLen →
    s.byte 0 = 0x55 → (allowed = [] ∨ s.half 1 ∈ allowed) →
    Answers (.scan allowed) s
      (.ok (.header { preamble := 0x55, messageType := s.half 1, senderId := s.half 3, payloadLength := s.byte 5 }))

/-- "For any buffer whose first byte ≠ 0x55, header scan and frame validation fail regardless of remaining content"
(30_encoding.md R82), with `SyncMismatch` (41_header_scan.md R152); so do the two decoders, which the validator's failure
passes through (60_exceptions.md R252). That a buffer of 1 to 5 bytes ends so and not in `BufferTooShort` is R154's order of
tests, the spec's own decision D11 (log 17). -/
def Obligations.WrongFirstByteFailsScanValidatorAndDecoders : Prop :=
  ∀ (i : Instr) (s : State),
    ((∃ allowed, i = .scan allowed ∧ s.typesFit allowed = true) ∨ i = .validate ∨ i = .decbl ∨ i = .decobs) →
    s.bufFits = true → 1 ≤ s.bufLen → s.byte 0 ≠ 0x55 → Answers i s (.fail .syncMismatch)

/-- "For any buffer shorter than 6 bytes, header scan fails regardless of content" (41_header_scan.md R158, which the spec
marks as derived), and so does everything built on it. -/
def Obligations.ShortBuffersFailEverywhere : Prop :=
  ∀ (i : Instr) (s : State), (∀ off len, i ≠ .crc16 off len) → s.bufFits = true →
    (∀ allowed, i = .scan allowed → s.typesFit allowed = true) → s.bufLen < 6 →
    ∃ f : Failure, (f = .bufferTooShort ∨ f = .syncMismatch) ∧ Answers i s (.fail f)

/-! ## The frame validator -/

/-- `VALIDATE` ends in the first of its steps that fails, in the order of 42_frame_validate.md R171, or in the header of step
1: the sync and header tests of the scanner, the length test in naturals, the comparison of the checksum of
`BUF[1 .. 6+len)` with the trailer. The failure of an empty buffer and the order of the scanner's tests (41_header_scan.md
R151, R153, R154) are the spec's own decision D11 (log 17). -/
def Obligations.ValidateEndsInItsFirstFailingStep : Prop :=
  ∀ s : State, s.bufFits = true →
    Answers .validate s
      (if s.bufLen = 0 then .fail .bufferTooShort
       else if s.byte 0 ≠ 0x55 then .fail .syncMismatch
       else if s.bufLen < 6 then .fail .bufferTooShort
       else if s.bufLen < 6 + (s.byte 5).toNat + 2 then .fail .bufferTooShort
       else if crcBitwise (s.bytesAt 1 ((s.byte 5).toNat + 5)) ≠ s.half (6 + (s.byte 5).toNat) then .fail .checksumMismatch
       else .ok (.header { preamble := s.byte 0, messageType := s.half 1, senderId := s.half 3, payloadLength := s.byte 5 }))

/-- A certified frame, of whatever type, validates and gives its header; the row `MSG_OTHER` does the same by its rule
(42_frame_validate.md R171, R177; that the row can be run is the model's choice, log 8). -/
def Obligations.CertifiedFramesValidate : Prop :=
  ∀ (i : Instr) (s : State), (i = .validate ∨ i = .msgOther) → s.bufFits = true → s.certified = true →
    Answers i s (.ok (.header s.header))

/-- The row `MSG_OTHER` answers just what `VALIDATE` answers, failures included and in its order (the spec's own decision
D11); that the row can be run is the model's choice (log 8). -/
def Obligations.MsgOtherEndsInItsFirstFailingStep : Prop :=
  ∀ s : State, s.bufFits = true → Answers .msgOther s (verdict s.frameFailure (.header s.header))

/-- Nothing but a certified frame gets past the validator: any success of an operation other than `CRC16` and `SCAN` means
that the buffer begins with a frame whose checksum is its trailer (42_frame_validate.md R170, R175; 41_header_scan.md R157). -/
def Obligations.OnlyCertifiedFramesSucceed : Prop :=
  ∀ (i : Instr) (s t : State) (v : Value), (∀ off len, i ≠ .crc16 off len) → (∀ allowed, i ≠ .scan allowed) →
    exec i s = .next t → t.rsp = some (.ok v) →
    s.byte 0 = 0x55 ∧ 8 + s.payloadLen ≤ s.bufLen ∧ crcBitwise (s.bytesAt 1 (s.payloadLen + 5)) = s.half (6 + s.payloadLen)

/-- Bytes of `BUF` beyond the frame are not examined: two buffers that agree on a certified frame, however they go on, get
the same response (20_memory.md R57, which the spec marks as derived there; 42_frame_validate.md R177). -/
def Obligations.BytesAfterTheFrameAreIgnored : Prop :=
  ∀ (i : Instr) (s t : State), (∀ off len, i ≠ .crc16 off len) → s.config = t.config → s.bufFits = true →
    t.bufFits = true → s.certified = true → 8 + s.payloadLen ≤ t.bufLen →
    (∀ a, a < 8 + s.payloadLen → t.byte a = s.byte a) →
    responseOf (exec i s) = responseOf (exec i t)

/-- One changed byte of a certified frame, the sync byte and the length byte apart, makes the validator and all that is built
on it fail with `ChecksumMismatch` (42_frame_validate.md R179, which the spec marks as derived). -/
def Obligations.OneChangedByteIsAChecksumMismatch : Prop :=
  ∀ (i : Instr) (s t : State) (k : Nat), (∀ off len, i ≠ .crc16 off len) → (∀ allowed, i ≠ .scan allowed) →
    s.certified = true → t.bufFits = true → t.bufLen = s.bufLen →
    1 ≤ k → k < 8 + s.payloadLen → k ≠ 5 → t.byte k ≠ s.byte k → (∀ a, a ≠ k → t.byte a = s.byte a) →
    Answers i t (.fail .checksumMismatch)

/-! ## The Baseline decoder -/

/-- `DECBL`, and the rows `MSG_BASELINE_ECEF` and `BLECEF` by their rules, end in the first test that fails, validator, type
when it is checked, length 20, or in the record (43_baseline_decode.md R191; the two tests are the spec's own decisions D15
and D16, the order is D11, the two rows are the model's choice, log 8 and log 9). -/
def Obligations.BaselineEndsInItsFirstFailingTest : Prop :=
  ∀ (i : Instr) (s : State), (i = .decbl ∨ i = .msgBaselineEcef ∨ i = .blecef) → s.bufFits = true →
    Answers i s (verdict s.baselineFailure (.baseline s.baselineRecord))

/-- A certified frame with a payload of 20 bytes, of type 0x0202 wherever the type is checked, decodes to the seven fields at
their offsets (43_baseline_decode.md R194, 20_memory.md R58). -/
def Obligations.CertifiedBaselinesDecode : Prop :=
  ∀ (i : Instr) (s : State), (i = .decbl ∨ i = .msgBaselineEcef ∨ i = .blecef) → s.bufFits = true →
    s.certified = true → s.payloadLen = 20 → (s.config.blTypeCheck = true → s.half 1 = 0x0202) →
    Answers i s (.ok (.baseline
      { timeOfWeek := s.full 6, x := (s.full 10).toInt, y := (s.full 14).toInt, z := (s.full 18).toInt,
        accuracy := s.half 22, satelliteCount := s.byte 24, flags := s.byte 25 }))

/-- Round trip: the frame of any Baseline record, from any sender and followed by anything, decodes to that record
(43_baseline_decode.md R191, 30_encoding.md R99). -/
def Obligations.BaselineRoundTrip : Prop :=
  ∀ (s : State) (sender : Word16) (r : BaselineECEF) (rest : List Byte), r.wf = true →
    (s.loadBuffer (frameBytes 0x0202 sender (baselinePayload r) ++ rest)).bufFits = true →
    Answers .decbl (s.loadBuffer (frameBytes 0x0202 sender (baselinePayload r) ++ rest)) (.ok (.baseline r))

/-! ## The Observation decoder -/

/-- `DECOBS` and the row `MSG_OBS` by its rule end in the first test that fails, validator, type 0x004A, length 11 + 17 N, or
in the message (44_observation_decode.md R211; the order is the spec's own decision D11, the row the model's choice, log 8). -/
def Obligations.ObservationEndsInItsFirstFailingTest : Prop :=
  ∀ (i : Instr) (s : State), (i = .decobs ∨ i = .msgObs) → s.bufFits = true →
    Answers i s (verdict s.obsFailure
      (.observations { header := s.observationHeader, records := s.observationRecords s.recordCount }))

/-- The rows `OBSHDR` and `OBSREC` make the same tests and give the header, or the records, alone (44_observation_decode.md
R215, R217; the order is the spec's own decision D11; that they can be run is the model's choice, log 9). -/
def Obligations.ObservationLayoutsEndInTheFirstFailingTest : Prop :=
  ∀ s : State, s.bufFits = true →
    Answers .obshdr s (verdict s.obsFailure (.obsHeader s.observationHeader)) ∧
    Answers .obsrec s (verdict s.obsFailure (.obsRecords (s.observationRecords s.recordCount)))

/-- A certified frame of type 0x004A with a payload of 11 + 17 N bytes decodes to its header and exactly N records in wire
order, N taken from `payload_length` alone (44_observation_decode.md R214, R215, R217). The rows `OBSHDR` and `OBSREC`, run by
the model's choice (log 9), give the two parts. -/
def Obligations.CertifiedObservationsDecode : Prop :=
  ∀ (s : State) (n : Nat), s.bufFits = true → s.certified = true → s.half 1 = 0x004A → s.payloadLen = 11 + 17 * n →
    Answers .decobs s (.ok (.observations
      { header := s.observationHeader, records := (List.range n).map s.observationRecord })) ∧
    Answers .msgObs s (.ok (.observations
      { header := s.observationHeader, records := (List.range n).map s.observationRecord })) ∧
    Answers .obshdr s (.ok (.obsHeader s.observationHeader)) ∧
    Answers .obsrec s (.ok (.obsRecords ((List.range n).map s.observationRecord)))

/-- The legal lengths "are exactly 11, 28, 45, 62, 79, 96, 113, 130, 147, 164, 181, 198, 215, 232, 249" and give
`(payload_length - 11) / 17` records; "any other `len`, including every `len` < 11, is malformed" (30_encoding.md R92). -/
def Obligations.LegalObservationLengths : Prop :=
  ∀ s : State, s.bufFits = true → s.certified = true → s.half 1 = 0x004A →
    if s.payloadLen ∈ [11, 28, 45, 62, 79, 96, 113, 130, 147, 164, 181, 198, 215, 232, 249] then
      ∃ m : ObservationMessage, Answers .decobs s (.ok (.observations m)) ∧ m.records.length = (s.payloadLen - 11) / 17
    else Answers .decobs s (.fail .malformedLength)

/-- Round trip: the frame of any Observation message of at most 14 records, from any sender, followed by anything and under
either nibble order, decodes to that message (44_observation_decode.md R220, which the spec marks as derived). -/
def Obligations.ObservationRoundTrip : Prop :=
  ∀ (s : State) (sender : Word16) (m : ObservationMessage) (rest : List Byte),
    m.header.wf = true → obsRecordsWf m.records = true →
    (s.loadBuffer (frameBytes 0x004A sender (observationPayload s.config.fragIndexLow m) ++ rest)).bufFits = true →
    Answers .decobs (s.loadBuffer (frameBytes 0x004A sender (observationPayload s.config.fragIndexLow m) ++ rest))
      (.ok (.observations m))

/-- No payload byte is dropped: the fields of a decoded message, written back by the layout tables, are the payload byte for
byte (30_encoding.md R90, R94, R95, R97; 44_observation_decode.md R211 "the payload is consumed exactly"). -/
def Obligations.DecodedObservationsLoseNoByte : Prop :=
  ∀ (s t : State) (m : ObservationMessage), exec .decobs s = .next t → t.rsp = some (.ok (.observations m)) →
    observationPayload s.config.fragIndexLow m = s.bytesAt 6 s.payloadLen

/-- The flags byte splits into its six fields at the bits of 30_encoding.md R97 (the spec's own decision D18), and the byte and
the fields determine each other. -/
def Obligations.FlagsByteSplitsByBits : Prop :=
  (∀ f : Byte,
    (unpackFlags f).pseudorangeValid = f.getLsbD 0 ∧ (unpackFlags f).carrierPhaseValid = f.getLsbD 1 ∧
    (unpackFlags f).halfCycleResolved = f.getLsbD 2 ∧ (unpackFlags f).dopplerValid = f.getLsbD 3 ∧
    (unpackFlags f).reserved = f.extractLsb' 4 3 ∧ (unpackFlags f).raimExcl = f.getLsbD 7 ∧
    packFlags (unpackFlags f) = f) ∧
  (∀ g : ObservationFlags, unpackFlags (packFlags g) = g)

/-- The nibble pair: `fragment_index` is bits 3:0 and `fragment_total` bits 7:4 when `FRAG_INDEX_LOW` is 1, exchanged when it
is 0 (30_encoding.md R94, the spec's own decision D17). -/
def Obligations.NibblePairSplits : Prop :=
  ∀ nib : Byte,
    fragmentIndex true nib = nib.extractLsb' 0 4 ∧ fragmentTotal true nib = nib.extractLsb' 4 4 ∧
    fragmentIndex false nib = nib.extractLsb' 4 4 ∧ fragmentTotal false nib = nib.extractLsb' 0 4

/-! ## Field assembly -/

/-- "All multi-byte integers on the wire are little-endian: the byte at the lowest index is the least significant"
(20_memory.md R52): the typed reads as numbers. -/
def Obligations.FieldsAreLittleEndian : Prop :=
  ∀ (s : State) (a : Nat),
    (s.half a).toNat = (s.byte a).toNat + 256 * (s.byte (a + 1)).toNat ∧
    (s.full a).toNat = (s.byte a).toNat + 256 * (s.byte (a + 1)).toNat + 65536 * (s.byte (a + 2)).toNat +
      16777216 * (s.byte (a + 3)).toNat

/-- A signed field is its pattern in two's complement, within the range of its width (30_encoding.md R101, 00_scope.md R10; the
spec's own decision D19). -/
def Obligations.SignedFieldsAreTwosComplement : Prop :=
  ∀ (n : Nat) (v : BitVec n), 0 < n → signed v = v.toInt ∧ -2 ^ (n - 1) ≤ signed v ∧ signed v < 2 ^ (n - 1)

/-! ## The whole machine -/

/-- "No operation reads `BUF[i]` with `i ≥ BUF_LEN`" (20_memory.md R59, which the spec marks as derived): the fault that such a
read would raise is raised by no instruction and no step, in no state. -/
def Obligations.NoReadLeavesTheBuffer : Prop :=
  (∀ (i : Instr) (s : State) (r : Fault), exec i s ≠ .fault r) ∧ (∀ (s : State) (r : Fault), step s ≠ .fault r)

/-- Nothing but a capacity is ever refused by an instruction: a buffer beyond `BUF_CAP` or a set beyond `MAX_TYPES`
(93_implementation_defined.md U7, U8). -/
def Obligations.OnlyCapacitiesAreRefused : Prop :=
  ∀ (i : Instr) (s : State) (r : Refusal), exec i s = .refused r →
    (r = .bufferOverCapacity ∧ s.bufFits = false) ∨
    (∃ allowed, i = .scan allowed ∧ r = .allowedOverCapacity ∧ s.typesFit allowed = false)

/-- What is beyond a capacity is refused (93_implementation_defined.md U7, U8; 10_state.md R21, R22). That a `SCAN` beyond
both capacities is refused for its set, and not for its buffer, is the model's choice: the spec leaves it open (log 7). -/
def Obligations.OverCapacityIsRefused : Prop :=
  (∀ (i : Instr) (s : State), s.bufFits = false → (∀ allowed, i = .scan allowed → s.typesFit allowed = true) →
    exec i s = .refused .bufferOverCapacity) ∧
  (∀ (allowed : List MsgType) (s : State), s.typesFit allowed = false →
    exec (.scan allowed) s = .refused .allowedOverCapacity)

/-- On this hardware every instruction answers on every state: "no failure is fatal", "every operation terminates"
(60_exceptions.md R245, R250). That the two open capacities are unbounded here is the model's choice (log 7). -/
def Obligations.EveryInstructionAnswersOnThisHardware : Prop :=
  ∀ (i : Instr) (s : State), s.config = Config.hardware → ∃ r, Answers i s r

/-- "The only thing an operation produces is its response" (20_memory.md R56): every byte of `BUF`, `BUF_LEN`, the operands and
the configuration are as before. `CRC_TABLE` is a constant of the model, so no state can hold another. -/
def Obligations.OnlyTheResponseChanges : Prop :=
  ∀ (i : Instr) (s t : State), exec i s = .next t → ∃ r, AnsweredBy s t r

/-- "A model must not let any result depend on an earlier operation" (10_state.md R20): the response is a function of the
operands, the buffer and the configuration; two states that agree on those, whatever their working registers, their last
responses and their draws of free values, get the same response. -/
def Obligations.ResponsesIgnoreHistory : Prop :=
  (∀ (i : Instr) (s t : State), SameOperands s t → responseOf (exec i s) = responseOf (exec i t)) ∧
  (∀ s t : State, SameOperands s t → s.request ≠ none → responseOf (step s) = responseOf (step t))

/-- The responses of a program are those its requests would get one by one from the reset state, in any order and number
(10_state.md R20, 60_exceptions.md R249, R259; 95_test_vectors.md part C). -/
def Obligations.ProgramResponsesAreIndependent : Prop :=
  ∀ (s : State) (rs : List Request),
    runProgram s rs = rs.map fun r => responseOf (step ({ State.reset with config := s.config }.present r))

/-- "Issuing the same operation on the same buffer fails the same way" (60_exceptions.md R249), and succeeds the same way. -/
def Obligations.RepeatedOperationsRepeatTheirResponse : Prop :=
  ∀ (i : Instr) (s t : State), exec i s = .next t → responseOf (exec i t) = t.rsp

/-- Every step keeps the invariant: `BUF` in canonical form with no byte beyond `BUF_LEN`, a configuration that R7 allows,
`NREC` in 0..14 (10_state.md R26), and a response that is legal: preamble 0x55 in every header (R29), signed fields in their
ranges (30_encoding.md R101), at most 14 records (R33). -/
def Obligations.StepKeepsTheInvariant : Prop :=
  ∀ s t : State, s.inv = true → step s = .next t → t.inv = true

/-- The reset state meets the invariant. -/
def Obligations.ResetMeetsTheInvariant : Prop := State.reset.inv = true

/-- After reset "the core is idle, no operation is in progress, no response exists" and the configuration bits are 1
(10_state.md R38, R39, 70_reset_and_hazards.md R280, the spec's own decision D13); a reset of the core at any time leaves it so
and touches neither the host's operands nor the configuration. -/
def Obligations.ResetLeavesTheCoreIdle : Prop :=
  State.reset.request = none ∧ State.reset.rsp = none ∧ State.reset.config.blTypeCheck = true ∧
  State.reset.config.fragIndexLow = true ∧
  ∀ s : State, s.coreReset.request = none ∧ s.coreReset.rsp = none ∧ s.coreReset.config = s.config ∧
    s.coreReset.buf = s.buf ∧ s.coreReset.bufLen = s.bufLen ∧ s.coreReset.cmd = s.cmd ∧ s.coreReset.off = s.off ∧
    s.coreReset.len = s.len ∧ s.coreReset.allowed = s.allowed

/-- Which failures an operation can end in: the table of 60_exceptions.md R242, which the spec marks as derived; the format
rows as the operations of their rules (log 8, log 9). -/
def Obligations.FailuresOfEachOperation : Prop :=
  ∀ (i : Instr) (s t : State) (f : Failure), exec i s = .next t → t.rsp = some (.fail f) →
    match i with
    | .crc16 _ _ => f = .bufferTooShort
    | .scan allowed => f = .syncMismatch ∨ f = .bufferTooShort ∨ (f = .typeRejected ∧ allowed ≠ [])
    | .validate | .msgOther => f = .syncMismatch ∨ f = .bufferTooShort ∨ f = .checksumMismatch
    | .decbl | .msgBaselineEcef | .blecef =>
      f = .syncMismatch ∨ f = .bufferTooShort ∨ f = .checksumMismatch ∨ f = .malformedLength ∨
        (f = .typeRejected ∧ s.config.blTypeCheck = true)
    | .decobs | .msgObs | .obshdr | .obsrec => True

/-- The value of a success has the type that 10_state.md R28 gives the operation; the format rows have those of their stages,
which is the model's choice (log 20). -/
def Obligations.ValueTypeOfEachOperation : Prop :=
  ∀ (i : Instr) (s t : State) (v : Value), exec i s = .next t → t.rsp = some (.ok v) →
    match i with
    | .crc16 _ _ => ∃ c, v = .checksum c
    | .scan _ | .validate | .msgOther => ∃ h, v = .header h
    | .decbl | .msgBaselineEcef | .blecef => ∃ b, v = .baseline b
    | .decobs | .msgObs => ∃ m, v = .observations m
    | .obshdr => ∃ h, v = .obsHeader h
    | .obsrec => ∃ rs, v = .obsRecords rs

/-- The status codes of 60_exceptions.md R241 (the spec's own decision D7): `OK` is 0, the failures 1 to 5, and 6 and 7 are
never produced. -/
def Obligations.StatusCodes : Prop :=
  (∀ v : Value, (Response.ok v).status = 0) ∧ (Response.fail .syncMismatch).status = 1 ∧
  (Response.fail .bufferTooShort).status = 2 ∧ (Response.fail .typeRejected).status = 3 ∧
  (Response.fail .checksumMismatch).status = 4 ∧ (Response.fail .malformedLength).status = 5 ∧
  ∀ r : Response, r.status ≠ 6 ∧ r.status ≠ 7
end

