-- ==== Sys2Proof/Laws/Memory.lean ====
section
/-! SUPPORT. The laws of `BUF` as canonical memory: what a write and a load read back as, and that both keep the form. -/

namespace Sys2Proof.Machine

open Sys2Proof

/-- Every listed index is at least `a`. -/
def Memory.above (a : Nat) (m : Memory) : Prop := ∀ c ∈ m, a ≤ c.1

theorem Memory.wf_cons_iff (a : Nat) (v : Byte) (m : Memory) :
    Memory.wf ((a, v) :: m) = true ↔ v ≠ Memory.unlisted ∧ m.above (a + 1) ∧ m.wf = true := by
  induction m generalizing a v with
  | nil => simp [Memory.wf, Memory.above]
  | cons c m ih =>
    obtain ⟨b, u⟩ := c
    simp only [Memory.wf, Bool.and_eq_true, bne_iff_ne, decide_eq_true_eq, and_assoc]
    constructor
    · rintro ⟨hv, hab, hm⟩
      refine ⟨hv, ?_, hm⟩
      intro c hc
      rcases List.mem_cons.mp hc with rfl | hc
      · exact hab
      · have := ((ih b u).mp hm).2.1 c hc
        omega
    · rintro ⟨hv, hb, hm⟩
      exact ⟨hv, hb (b, u) (List.mem_cons_self ..), hm⟩

theorem Memory.read_of_above {a x : Nat} {m : Memory} (h : m.above a) (hx : x < a) : m.read x = Memory.unlisted := by
  induction m with
  | nil => rfl
  | cons c m ih =>
    obtain ⟨b, u⟩ := c
    have hb : a ≤ b := h (b, u) (List.mem_cons_self ..)
    have : x ≠ b := by omega
    simp only [Memory.read, this, if_false]
    exact ih fun c hc => h c (List.mem_cons_of_mem _ hc)

theorem Memory.consCell_wf {a : Nat} {v : Byte} {m : Memory} (ha : m.above (a + 1)) (hm : m.wf = true) :
    (Memory.consCell a v m).wf = true := by
  unfold Memory.consCell
  split
  · exact hm
  · exact (Memory.wf_cons_iff ..).mpr ⟨‹_›, ha, hm⟩

theorem Memory.consCell_above {a b : Nat} {v : Byte} {m : Memory} (hab : a ≤ b) (hm : m.above a) :
    (Memory.consCell b v m).above a := by
  unfold Memory.consCell
  split
  · exact hm
  · intro c hc
    rcases List.mem_cons.mp hc with rfl | hc
    · exact hab
    · exact hm c hc

theorem Memory.read_consCell {a x : Nat} {v : Byte} {m : Memory} (ha : m.above (a + 1)) :
    (Memory.consCell a v m).read x = if x = a then v else m.read x := by
  unfold Memory.consCell
  split
  · split
    · subst_vars
      exact Memory.read_of_above ha (Nat.lt_succ_self _)
    · rfl
  · rfl

theorem Memory.above_mono {a b : Nat} {m : Memory} (h : m.above b) (hab : a ≤ b) : m.above a :=
  fun c hc => Nat.le_trans hab (h c hc)

theorem Memory.write_above {a b : Nat} {v : Byte} {m : Memory} (hm : m.above a) (hab : a ≤ b) : (m.write b v).above a := by
  induction m with
  | nil => exact Memory.consCell_above hab hm
  | cons c m ih =>
    obtain ⟨d, u⟩ := c
    have hd : a ≤ d := hm (d, u) (List.mem_cons_self ..)
    have ht : Memory.above a m := fun c hc => hm c (List.mem_cons_of_mem _ hc)
    simp only [Memory.write]
    split
    · exact Memory.consCell_above hab hm
    · split
      · exact Memory.consCell_above hab ht
      · intro c hc
        rcases List.mem_cons.mp hc with rfl | hc
        · exact hd
        · exact ih ht c hc

/-- A write keeps the canonical form. -/
theorem Memory.write_wf {a : Nat} {v : Byte} {m : Memory} (hm : m.wf = true) : (m.write a v).wf = true := by
  induction m with
  | nil => exact Memory.consCell_wf (fun _ hc => absurd hc (List.not_mem_nil)) rfl
  | cons c m ih =>
    obtain ⟨b, u⟩ := c
    obtain ⟨hu, hb, ht⟩ := (Memory.wf_cons_iff ..).mp hm
    simp only [Memory.write]
    split
    · refine Memory.consCell_wf ?_ hm
      intro c hc
      rcases List.mem_cons.mp hc with rfl | hc
      · exact ‹a < b›
      · have := hb c hc
        omega
    · split
      · subst_vars
        exact Memory.consCell_wf hb ht
      · exact (Memory.wf_cons_iff ..).mpr ⟨hu, Memory.write_above hb (by omega), ih ht⟩

/-- A read after a write: the byte written at its index, every other byte as before. -/
theorem Memory.read_write {a x : Nat} {v : Byte} {m : Memory} (hm : m.wf = true) :
    (m.write a v).read x = if x = a then v else m.read x := by
  induction m with
  | nil => exact Memory.read_consCell fun _ hc => absurd hc (List.not_mem_nil)
  | cons c m ih =>
    obtain ⟨b, u⟩ := c
    obtain ⟨hu, hb, ht⟩ := (Memory.wf_cons_iff ..).mp hm
    simp only [Memory.write]
    split
    · refine Memory.read_consCell ?_
      intro c hc
      rcases List.mem_cons.mp hc with rfl | hc
      · exact ‹a < b›
      · have := hb c hc
        omega
    · split
      · subst_vars
        rw [Memory.read_consCell hb]
        simp only [Memory.read]
        split <;> rfl
      · simp only [Memory.read, ih ht]
        split
        · have : x ≠ a := by omega
          simp [this]
        · rfl

theorem Memory.ofBytes_above (a : Nat) (bs : List Byte) : (Memory.ofBytes a bs).above a := by
  induction bs generalizing a with
  | nil => exact fun _ hc => absurd hc (List.not_mem_nil)
  | cons v bs ih => exact Memory.consCell_above (Nat.le_refl a) (Memory.above_mono (ih (a + 1)) (Nat.le_succ a))

/-- A load gives a memory in canonical form. -/
theorem Memory.ofBytes_wf (a : Nat) (bs : List Byte) : (Memory.ofBytes a bs).wf = true := by
  induction bs generalizing a with
  | nil => rfl
  | cons v bs ih => exact Memory.consCell_wf (Memory.ofBytes_above (a + 1) bs) (ih (a + 1))

/-- A load reads back as the bytes loaded. -/
theorem Memory.read_ofBytes (a j : Nat) (bs : List Byte) : (Memory.ofBytes a bs).read (a + j) = bs.getD j 0 := by
  induction bs generalizing a j with
  | nil => rfl
  | cons v bs ih =>
    rw [Memory.ofBytes, Memory.read_consCell (Memory.ofBytes_above (a + 1) bs)]
    cases j with
    | zero => simp
    | succ j =>
      have : a + (j + 1) = a + 1 + j := by omega
      rw [if_neg (by omega), this, ih]
      rfl

/-- A load lists no index at or beyond its end. -/
theorem Memory.ofBytes_below (a : Nat) (bs : List Byte) : ∀ c ∈ Memory.ofBytes a bs, c.1 < a + bs.length := by
  induction bs generalizing a with
  | nil => exact fun _ hc => absurd hc (List.not_mem_nil)
  | cons v bs ih =>
    intro c hc
    have hlen : (v :: bs).length = bs.length + 1 := rfl
    have tail : c ∈ Memory.ofBytes (a + 1) bs → c.1 < a + (v :: bs).length := by
      intro h
      have := ih (a + 1) c h
      omega
    simp only [Memory.ofBytes, Memory.consCell] at hc
    split at hc
    · exact tail hc
    · rcases List.mem_cons.mp hc with rfl | hc
      · show a < a + (v :: bs).length
        omega
      · exact tail hc

/-- A byte of a loaded buffer. -/
theorem State.byte_loadBuffer (s : State) (bs : List Byte) (a : Nat) : (s.loadBuffer bs).byte a = bs.getD a 0 := by
  have h := Memory.read_ofBytes 0 a bs
  rw [Nat.zero_add] at h
  exact h

/-- The bytes at `a .. a+n-1` are `n` bytes. -/
@[simp] theorem State.length_bytesAt (s : State) (a n : Nat) : (s.bytesAt a n).length = n := by
  simp [State.bytesAt]

/-- Byte `j` of the bytes at `a`. -/
theorem State.getElem_bytesAt (s : State) (a n j : Nat) (h : j < (s.bytesAt a n).length) :
    (s.bytesAt a n)[j] = s.byte (a + j) := by
  simp [State.bytesAt, State.byte]

/-- The bytes at `a` depend on those bytes of `BUF` only. -/
theorem State.bytesAt_congr {s t : State} {a n : Nat} (h : ∀ j, j < n → s.byte (a + j) = t.byte (a + j)) :
    s.bytesAt a n = t.bytesAt a n :=
  List.map_congr_left fun j hj => h j (List.mem_range.mp hj)

end Sys2Proof.Machine
end

