-- ==== Sys2Proof/Laws/State.lean ====
section
/-! SUPPORT. One lemma per field per update of State: later proofs unfold no record update. -/

namespace Sys2Proof.Machine

open Sys2Proof

/-! ## respond -/

@[simp] theorem State.respond_request (s : State) (r : Response) : (s.respond r).request = none := rfl
@[simp] theorem State.respond_cmd (s : State) (r : Response) : (s.respond r).cmd = s.cmd := rfl
@[simp] theorem State.respond_off (s : State) (r : Response) : (s.respond r).off = s.off := rfl
@[simp] theorem State.respond_len (s : State) (r : Response) : (s.respond r).len = s.len := rfl
@[simp] theorem State.respond_allowed (s : State) (r : Response) : (s.respond r).allowed = s.allowed := rfl
@[simp] theorem State.respond_buf (s : State) (r : Response) : (s.respond r).buf = s.buf := rfl
@[simp] theorem State.respond_bufLen (s : State) (r : Response) : (s.respond r).bufLen = s.bufLen := rfl
@[simp] theorem State.respond_rsp (s : State) (r : Response) : (s.respond r).rsp = some r := rfl
@[simp] theorem State.respond_work (s : State) (r : Response) : (s.respond r).work = Work.unspecified s.draws := rfl
@[simp] theorem State.respond_draws (s : State) (r : Response) : (s.respond r).draws = s.draws + 1 := rfl
@[simp] theorem State.respond_config (s : State) (r : Response) : (s.respond r).config = s.config := rfl

/-! ## loadBuffer -/

@[simp] theorem State.loadBuffer_request (s : State) (bs : List Byte) : (s.loadBuffer bs).request = s.request := rfl
@[simp] theorem State.loadBuffer_cmd (s : State) (bs : List Byte) : (s.loadBuffer bs).cmd = s.cmd := rfl
@[simp] theorem State.loadBuffer_off (s : State) (bs : List Byte) : (s.loadBuffer bs).off = s.off := rfl
@[simp] theorem State.loadBuffer_len (s : State) (bs : List Byte) : (s.loadBuffer bs).len = s.len := rfl
@[simp] theorem State.loadBuffer_allowed (s : State) (bs : List Byte) : (s.loadBuffer bs).allowed = s.allowed := rfl
@[simp] theorem State.loadBuffer_buf (s : State) (bs : List Byte) : (s.loadBuffer bs).buf = Memory.ofBytes 0 bs := rfl
@[simp] theorem State.loadBuffer_bufLen (s : State) (bs : List Byte) : (s.loadBuffer bs).bufLen = bs.length := rfl
@[simp] theorem State.loadBuffer_rsp (s : State) (bs : List Byte) : (s.loadBuffer bs).rsp = s.rsp := rfl
@[simp] theorem State.loadBuffer_work (s : State) (bs : List Byte) : (s.loadBuffer bs).work = s.work := rfl
@[simp] theorem State.loadBuffer_draws (s : State) (bs : List Byte) : (s.loadBuffer bs).draws = s.draws := rfl
@[simp] theorem State.loadBuffer_config (s : State) (bs : List Byte) : (s.loadBuffer bs).config = s.config := rfl

/-! ## present -/

@[simp] theorem State.present_request (s : State) (r : Request) : (s.present r).request = some r.port := rfl
@[simp] theorem State.present_cmd (s : State) (r : Request) : (s.present r).cmd = r.cmd := rfl
@[simp] theorem State.present_off (s : State) (r : Request) : (s.present r).off = r.off := rfl
@[simp] theorem State.present_len (s : State) (r : Request) : (s.present r).len = r.len := rfl
@[simp] theorem State.present_allowed (s : State) (r : Request) : (s.present r).allowed = r.allowed := rfl
@[simp] theorem State.present_buf (s : State) (r : Request) : (s.present r).buf = Memory.ofBytes 0 r.bytes := rfl
@[simp] theorem State.present_bufLen (s : State) (r : Request) : (s.present r).bufLen = r.bytes.length := rfl
@[simp] theorem State.present_rsp (s : State) (r : Request) : (s.present r).rsp = s.rsp := rfl
@[simp] theorem State.present_work (s : State) (r : Request) : (s.present r).work = s.work := rfl
@[simp] theorem State.present_draws (s : State) (r : Request) : (s.present r).draws = s.draws := rfl
@[simp] theorem State.present_config (s : State) (r : Request) : (s.present r).config = s.config := rfl

/-! ## coreReset -/

@[simp] theorem State.coreReset_request (s : State) : (s.coreReset).request = none := rfl
@[simp] theorem State.coreReset_cmd (s : State) : (s.coreReset).cmd = s.cmd := rfl
@[simp] theorem State.coreReset_off (s : State) : (s.coreReset).off = s.off := rfl
@[simp] theorem State.coreReset_len (s : State) : (s.coreReset).len = s.len := rfl
@[simp] theorem State.coreReset_allowed (s : State) : (s.coreReset).allowed = s.allowed := rfl
@[simp] theorem State.coreReset_buf (s : State) : (s.coreReset).buf = s.buf := rfl
@[simp] theorem State.coreReset_bufLen (s : State) : (s.coreReset).bufLen = s.bufLen := rfl
@[simp] theorem State.coreReset_rsp (s : State) : (s.coreReset).rsp = none := rfl
@[simp] theorem State.coreReset_work (s : State) : (s.coreReset).work = Work.unspecified s.draws := rfl
@[simp] theorem State.coreReset_draws (s : State) : (s.coreReset).draws = s.draws + 1 := rfl
@[simp] theorem State.coreReset_config (s : State) : (s.coreReset).config = s.config := rfl

/-! ## Taking a failure -/

/-- Taking a failure is responding with its name (60_exceptions.md R247). -/
@[simp] theorem State.takeFailure_eq (s : State) (f : Failure) : s.takeFailure f = s.respond (.fail f) := rfl

/-- The free values of `NREC` stay in 0..14 (10_state.md R26). -/
theorem Work.unspecified_nrec_le (n : Nat) : (Work.unspecified n).nrec ≤ maxObsRecords :=
  Nat.le_of_lt_succ (Config.freeNrec n).isLt

end Sys2Proof.Machine
end

