-- ==== Sys2Proof/Laws/Stages.lean ====
section
/-! SUPPORT. One lemma for each shared operation that says once everything it can do: the typed reads, the stages of the
operations, and the run of an operation. Later proofs cite these and unfold none of the operations. -/

namespace Sys2Proof.Machine

open Sys2Proof

/-! ## Res -/

@[simp] theorem Res.bind_ok {α β : Type} (a : α) (w : Work) (k : α → Work → Res β) : (Res.ok a w).bind k = k a w := rfl
@[simp] theorem Res.bind_fail {α β : Type} (f : Failure) (k : α → Work → Res β) : (Res.fail f : Res α).bind k = .fail f := rfl
@[simp] theorem Res.bind_fault {α β : Type} (r : Fault) (k : α → Work → Res β) : (Res.fault r : Res α).bind k = .fault r := rfl
@[simp] theorem Res.map_ok {α β : Type} (g : α → β) (a : α) (w : Work) : (Res.ok a w).map g = .ok (g a) w := rfl
@[simp] theorem Res.map_fail {α β : Type} (g : α → β) (f : Failure) : (Res.fail f : Res α).map g = .fail f := rfl
@[simp] theorem Res.map_fault {α β : Type} (g : α → β) (r : Fault) : (Res.fault r : Res α).map g = .fault r := rfl

/-! ## The typed reads, where the bytes exist -/

theorem State.u8_eq {s : State} {a : Nat} (h : a + 1 ≤ s.bufLen) (w : Work) : s.u8 a w = .ok (s.byte a) { w with cur := a } := by
  simp [State.u8, State.fetchAt, h]

theorem State.u16_eq {s : State} {a : Nat} (h : a + 2 ≤ s.bufLen) (w : Work) : s.u16 a w = .ok (s.half a) { w with cur := a } := by
  simp [State.u16, State.fetchAt, h]

theorem State.u32_eq {s : State} {a : Nat} (h : a + 4 ≤ s.bufLen) (w : Work) : s.u32 a w = .ok (s.full a) { w with cur := a } := by
  simp [State.u32, State.fetchAt, h]

theorem State.i16_eq {s : State} {a : Nat} (h : a + 2 ≤ s.bufLen) (w : Work) :
    s.i16 a w = .ok (signed (s.half a)) { w with cur := a } := by
  simp [State.i16, State.u16_eq h]

theorem State.i32_eq {s : State} {a : Nat} (h : a + 4 ≤ s.bufLen) (w : Work) :
    s.i32 a w = .ok (signed (s.full a)) { w with cur := a } := by
  simp [State.i32, State.u32_eq h]

theorem State.bufRead_eq {s : State} {a n : Nat} (h : a + n ≤ s.bufLen) (w : Work) :
    s.bufRead a n w = .ok (s.bytesAt a n) { w with cur := a } := by
  simp [State.bufRead, State.fetchAt, h]

/-! ## The checksum engine -/

/-- The loop of R133 leaves in `ACC` the checksum from the `ACC` it started with, and touches `ACC` and `IDX` only. -/
theorem Work.foldl_crcByte (w : Work) (bs : List Byte) :
    ∃ i, bs.foldl Work.crcByte w = { w with acc := bs.foldl crcStep w.acc, idx := i } := by
  induction bs generalizing w with
  | nil => exact ⟨w.idx, rfl⟩
  | cons b bs ih =>
    obtain ⟨i, hi⟩ := ih (w.crcByte b)
    exact ⟨i, by rw [List.foldl_cons, hi]; rfl⟩

/-- All that `CRC16`'s stages can do: fail on a range that leaves the buffer, or give the checksum of the range. -/
theorem crc16Op_eq (s : State) (off len : Nat) (w : Work) :
    (s.bufLen < off + len ∧ crc16Op s off len w = .fail .bufferTooShort) ∨
    (off + len ≤ s.bufLen ∧ ∃ i, crc16Op s off len w =
      .ok (crcOf (s.bytesAt off len)) { w with acc := crcOf (s.bytesAt off len), idx := i, cur := off }) := by
  by_cases h : off + len ≤ s.bufLen
  · refine .inr ⟨h, ?_⟩
    obtain ⟨i, hi⟩ := Work.foldl_crcByte { w with cur := off, acc := crcInit } (s.bytesAt off len)
    refine ⟨i, ?_⟩
    have : ¬ off + len > s.bufLen := by omega
    simp only [crc16Op, this, if_false, State.bufRead_eq h, Res.bind_ok, hi]
    rfl
  · exact .inl ⟨by omega, by simp only [crc16Op]; rw [if_pos (by omega)]⟩

/-! ## The scanner -/

/-- All that the scanner can do: its first failing test, or the header in `HDR` and as the value. -/
theorem scanOp_eq (s : State) (allowed : List MsgType) (w : Work) :
    scanOp s allowed w =
      match s.scanFailure allowed with
      | some f => .fail f
      | none => .ok s.header { w with hdr := s.header, cur := 5 } := by
  unfold scanOp State.scanFailure
  by_cases h0 : s.bufLen = 0
  · simp [h0]
  have e0 : s.u8 0 w = .ok (s.byte 0) { w with cur := 0 } := State.u8_eq (by omega) w
  by_cases hs : s.byte 0 = sync
  · by_cases h6 : s.bufLen < 6
    · simp [h0, e0, hs, h6]
    · have e1 : ∀ w, s.u16 1 w = .ok (s.half 1) { w with cur := 1 } := State.u16_eq (by omega)
      have e3 : ∀ w, s.u16 3 w = .ok (s.half 3) { w with cur := 3 } := State.u16_eq (by omega)
      have e5 : ∀ w, s.u8 5 w = .ok (s.byte 5) { w with cur := 5 } := State.u8_eq (by omega)
      by_cases ht : typeAllowed allowed (s.half 1) = true
      · simp [h0, e0, hs, h6, e1, e3, e5, ht, State.header]
      · simp [h0, e0, hs, h6, e1, ht]
  · simp [h0, e0, hs]

/-! ## The validator -/

/-- All that the validator can do: its first failing test, or the header as the value and still in `HDR`. -/
theorem validateOp_eq (s : State) (w : Work) :
    (∃ f, s.frameFailure = some f ∧ validateOp s w = .fail f) ∨
    (s.frameFailure = none ∧ ∃ w', validateOp s w = .ok s.header w' ∧ w'.hdr = s.header ∧ w'.nrec = w.nrec) := by
  unfold validateOp
  rw [scanOp_eq]
  unfold State.scanFailure State.frameFailure
  by_cases h0 : s.bufLen = 0
  · simp [h0]
  by_cases hs : s.byte 0 = sync
  swap
  · simp [h0, hs]
  by_cases h6 : s.bufLen < 6
  · simp [h0, hs, h6]
  have ha : typeAllowed [] (s.half 1) = true := rfl
  have hlen : s.header.payloadLength.toNat = s.payloadLen := rfl
  by_cases h8 : s.bufLen < 8 + s.payloadLen
  · have : s.bufLen < 6 + s.payloadLen + 2 := by omega
    simp [h0, hs, h6, ha, hlen, h8, this]
  · have hn : ¬ s.bufLen < 6 + s.payloadLen + 2 := by omega
    have e16 : ∀ w, s.u16 (6 + s.payloadLen) w = .ok (s.half (6 + s.payloadLen)) { w with cur := 6 + s.payloadLen } :=
      State.u16_eq (by omega)
    simp only [h0, hs, h6, ha, hlen, h8, hn, e16, if_false, if_true, Res.bind_ok, ne_eq, not_true]
    rcases crc16Op_eq s 1 (s.payloadLen + 5)
      { w with hdr := s.header, cur := 6 + s.payloadLen, stored := s.half (6 + s.payloadLen) } with ⟨hlt, _⟩ | ⟨_, i, e⟩
    · omega
    · rw [e]
      by_cases hc : s.computedChecksum = s.storedChecksum
      · right
        have hc' : crcOf (s.bytesAt 1 (s.payloadLen + 5)) = s.half (6 + s.payloadLen) := hc
        simp [hc, hc']
      · left
        have hc' : ¬ crcOf (s.bytesAt 1 (s.payloadLen + 5)) = s.half (6 + s.payloadLen) := hc
        simp [hc, hc']

/-- A frame is certified exactly when no test of the validator fails. -/
theorem State.certified_iff (s : State) : s.certified = true ↔ s.frameFailure = none := by
  unfold State.certified State.frameFailure
  simp only [Bool.and_eq_true, decide_eq_true_eq]
  constructor
  · rintro ⟨⟨hs, h8⟩, hc⟩
    have h0 : ¬ s.bufLen = 0 := by omega
    have h6 : ¬ s.bufLen < 6 := by omega
    have h8' : ¬ s.bufLen < 8 + s.payloadLen := by omega
    simp [h0, hs, h6, h8', hc]
  · intro h
    split at h
    · cases h
    split at h
    · cases h
    split at h
    · cases h
    split at h
    · cases h
    split at h
    · exact ⟨⟨not_not.mp ‹_›, by omega⟩, ‹_›⟩
    · cases h

/-- A certified frame is wholly in the buffer. -/
theorem State.certified_length {s : State} (h : s.certified = true) : 8 + s.payloadLen ≤ s.bufLen := by
  simp only [State.certified, Bool.and_eq_true, decide_eq_true_eq] at h
  exact h.1.2

/-! ## The Baseline decoder -/

/-- All that lines 1 to 3 of `DECBL` can do. -/
theorem baselineFrame_eq (s : State) (w : Work) :
    (∃ f, s.baselineFailure = some f ∧ baselineFrame s w = .fail f) ∨
    (s.baselineFailure = none ∧ s.certified = true ∧ s.payloadLen = 20 ∧
      ∃ w', baselineFrame s w = .ok () w' ∧ w'.nrec = w.nrec) := by
  unfold baselineFrame State.baselineFailure
  rcases validateOp_eq s w with ⟨f, hf, e⟩ | ⟨hf, w', e, hw, hn⟩
  · exact .inl ⟨f, by simp [hf], by simp [e]⟩
  · have ht : s.header.messageType = s.half 1 := rfl
    have hl : s.header.payloadLength.toNat = s.payloadLen := rfl
    rw [e, hf]
    simp only [Res.bind_ok, hw, ht, hl]
    split
    · exact .inl ⟨_, rfl, rfl⟩
    · split
      · exact .inl ⟨_, rfl, rfl⟩
      · exact .inr ⟨rfl, (State.certified_iff s).mpr hf, not_not.mp ‹_›, w', rfl, hn⟩

/-- The seven fields, where the payload exists. -/
theorem baselineFields_eq {s : State} (h : 26 ≤ s.bufLen) (w : Work) :
    baselineFields s w = .ok s.baselineRecord { w with cur := 25 } := by
  unfold baselineFields
  rw [State.u32_eq (by omega), Res.bind_ok, State.i32_eq (by omega), Res.bind_ok, State.i32_eq (by omega), Res.bind_ok,
    State.i32_eq (by omega), Res.bind_ok, State.u16_eq (by omega), Res.bind_ok, State.u8_eq (by omega), Res.bind_ok,
    State.u8_eq (by omega), Res.bind_ok]
  rfl

/-- All that `DECBL`'s stages can do: the first failing test, or the record. -/
theorem decblOp_eq (s : State) (w : Work) :
    (∃ f, s.baselineFailure = some f ∧ decblOp s w = .fail f) ∨
    (s.baselineFailure = none ∧ s.certified = true ∧ s.payloadLen = 20 ∧ ∃ w', decblOp s w = .ok s.baselineRecord w') := by
  unfold decblOp
  rcases baselineFrame_eq s w with ⟨f, hf, e⟩ | ⟨hf, hc, hl, w', e, _⟩
  · exact .inl ⟨f, hf, by rw [e]; rfl⟩
  · have := State.certified_length hc
    exact .inr ⟨hf, hc, hl, _, by rw [e, Res.bind_ok, baselineFields_eq (by omega)]⟩

/-! ## The Observation decoder -/

theorem State.payloadLen_le (s : State) : s.payloadLen ≤ 255 := Nat.le_of_lt_succ (s.byte 5).isLt

/-- `NREC` is in 0..14 (R214). -/
theorem State.recordCount_le (s : State) : s.recordCount ≤ 14 := by
  have := s.payloadLen_le
  unfold State.recordCount
  omega

/-- A legal length is 11 + 17 N (R92). -/
theorem obsLengthLegal_iff (len : Nat) : obsLengthLegal len = true ↔ len = 11 + 17 * ((len - 11) / 17) := by
  simp only [obsLengthLegal, obsHdrSize, obsRecSize, Bool.and_eq_true, decide_eq_true_eq]
  omega

/-- All that lines 1 to 4 of `DECOBS` can do: the first failing test, or the record count in `NREC` and as the value. -/
theorem obsFrame_eq (s : State) (w : Work) :
    (∃ f, s.obsFailure = some f ∧ obsFrame s w = .fail f) ∨
    (s.obsFailure = none ∧ s.certified = true ∧ s.payloadLen = 11 + 17 * s.recordCount ∧
      ∃ w', obsFrame s w = .ok s.recordCount w' ∧ w'.nrec = s.recordCount) := by
  unfold obsFrame State.obsFailure
  rcases validateOp_eq s w with ⟨f, hf, e⟩ | ⟨hf, w', e, hw, _⟩
  · exact .inl ⟨f, by simp [hf], by simp [e]⟩
  · have ht : s.header.messageType = s.half 1 := rfl
    have hl : s.header.payloadLength.toNat = s.payloadLen := rfl
    rw [e, hf]
    simp only [Res.bind_ok, hw, ht, hl]
    split
    · exact .inl ⟨_, rfl, rfl⟩
    · have hiff : (s.payloadLen < 11 ∨ (s.payloadLen - 11) % 17 ≠ 0) ↔ ¬ obsLengthLegal s.payloadLen = true := by
        rw [obsLengthLegal_iff]
        omega
      rw [if_congr hiff rfl rfl]
      by_cases hlen : obsLengthLegal s.payloadLen = true
      · simp only [hlen, Bool.not_true, not_true, if_false]
        exact .inr ⟨by trivial, (State.certified_iff s).mpr hf, (obsLengthLegal_iff _).mp hlen,
          { w' with nrec := s.recordCount }, by simp only [← hw]; rfl, rfl⟩
      · simp only [hlen, Bool.not_false, if_true]
        exact .inl ⟨_, by trivial, by trivial⟩

/-- The header, where its 11 bytes exist. -/
theorem obsHeaderFields_eq {s : State} (h : 17 ≤ s.bufLen) (w : Work) :
    obsHeaderFields s w = .ok s.observationHeader { w with cur := 16 } := by
  unfold obsHeaderFields
  rw [State.u32_eq (by omega), Res.bind_ok, State.i32_eq (by omega), Res.bind_ok, State.u16_eq (by omega), Res.bind_ok,
    State.u8_eq (by omega), Res.bind_ok]
  rfl

/-- Record `k`, where its 17 bytes exist. -/
theorem obsRecordFields_eq {s : State} {k : Nat} (h : 34 + 17 * k ≤ s.bufLen) (w : Work) :
    obsRecordFields s (17 + 17 * k) w = .ok (s.observationRecord k) { w with cur := 33 + 17 * k } := by
  have full : ∀ j, j + 4 ≤ 17 → ∀ w, s.u32 (17 + 17 * k + j) w = .ok (s.full (17 + 17 * k + j)) { w with cur := 17 + 17 * k + j } :=
    fun j hj => State.u32_eq (by omega)
  have int : ∀ j, j + 4 ≤ 17 → ∀ w,
      s.i32 (17 + 17 * k + j) w = .ok (signed (s.full (17 + 17 * k + j))) { w with cur := 17 + 17 * k + j } :=
    fun j hj => State.i32_eq (by omega)
  have short : ∀ j, j + 2 ≤ 17 → ∀ w,
      s.i16 (17 + 17 * k + j) w = .ok (signed (s.half (17 + 17 * k + j))) { w with cur := 17 + 17 * k + j } :=
    fun j hj => State.i16_eq (by omega)
  have one : ∀ j, j + 1 ≤ 17 → ∀ w, s.u8 (17 + 17 * k + j) w = .ok (s.byte (17 + 17 * k + j)) { w with cur := 17 + 17 * k + j } :=
    fun j hj => State.u8_eq (by omega)
  have e : 33 + 17 * k = 17 + 17 * k + 16 := by omega
  rw [obsRecordFields, full 0 (by decide), Res.bind_ok, int 4 (by decide), Res.bind_ok, e]
  simp only [one 8 (by decide), short 9 (by decide), Res.bind_ok]
  simp only [one 11 (by decide), one 12 (by decide), one 13 (by decide), one 14 (by decide), one 15 (by decide),
    one 16 (by decide), Res.bind_ok]
  rfl

/-- The record loop, where the records exist: records `k .. k+n-1` in order. -/
theorem obsRecordsFrom_eq {s : State} {k n : Nat} (h : 17 + 17 * (k + n) ≤ s.bufLen) (w : Work) :
    ∃ w', obsRecordsFrom s k n w = .ok ((List.range' k n).map s.observationRecord) w' ∧ w'.nrec = w.nrec := by
  induction n generalizing k w with
  | zero => exact ⟨w, rfl, rfl⟩
  | succ n ih =>
    obtain ⟨w', e, hn⟩ := ih (k := k + 1) (by omega) { w with cur := 33 + 17 * k }
    refine ⟨w', ?_, hn⟩
    rw [obsRecordsFrom, obsRecordFields_eq (by omega), Res.bind_ok, e, Res.bind_ok, List.range'_succ]
    rfl

/-- The record loop from the first record. -/
theorem obsRecordsFrom_zero_eq {s : State} {n : Nat} (h : 17 + 17 * n ≤ s.bufLen) (w : Work) :
    ∃ w', obsRecordsFrom s 0 n w = .ok (s.observationRecords n) w' ∧ w'.nrec = w.nrec := by
  obtain ⟨w', e, hn⟩ := obsRecordsFrom_eq (s := s) (k := 0) (n := n) (by omega) w
  refine ⟨w', ?_, hn⟩
  rw [e, State.observationRecords, List.range_eq_range']

/-- All that `DECOBS`'s stages can do: the first failing test, or the message. -/
theorem decobsOp_eq (s : State) (w : Work) :
    (∃ f, s.obsFailure = some f ∧ decobsOp s w = .fail f) ∨
    (s.obsFailure = none ∧ s.certified = true ∧ s.payloadLen = 11 + 17 * s.recordCount ∧
      ∃ w', decobsOp s w =
        .ok { header := s.observationHeader, records := s.observationRecords s.recordCount } w') := by
  unfold decobsOp
  rcases obsFrame_eq s w with ⟨f, hf, e⟩ | ⟨hf, hc, hl, w', e, hn⟩
  · exact .inl ⟨f, hf, by rw [e]; rfl⟩
  · have h8 := State.certified_length hc
    obtain ⟨w2, e2, _⟩ := obsRecordsFrom_zero_eq (s := s) (n := w'.nrec) (by omega) { w' with cur := 16 }
    refine .inr ⟨hf, hc, hl, w2, ?_⟩
    rw [e, Res.bind_ok, obsHeaderFields_eq (by omega), Res.bind_ok]
    show (obsRecordsFrom s 0 w'.nrec { w' with cur := 16 }).bind _ = _
    rw [e2, Res.bind_ok, hn]

/-! ## The run of an operation -/

/-- Within capacity, a stage that succeeds is answered with its value. -/
theorem State.run_ok {s : State} {op : Work → Res Value} {v : Value} {w : Work} (hfit : s.bufFits = true)
    (h : op s.work = .ok v w) : s.run op = .next (s.respond (.ok v)) := by
  simp [State.run, hfit, h]

/-- Within capacity, a stage that fails is answered with its failure. -/
theorem State.run_fail {s : State} {op : Work → Res Value} {f : Failure} (hfit : s.bufFits = true)
    (h : op s.work = .fail f) : s.run op = .next (s.respond (.fail f)) := by
  simp [State.run, hfit, h]

/-- All that a run can do when it answers a next state: it responds, and changes nothing else. -/
theorem State.run_next {s t : State} {op : Work → Res Value} (h : s.run op = .next t) :
    s.bufFits = true ∧ ∃ r, t = s.respond r ∧
      ((∃ v w, op s.work = .ok v w ∧ r = .ok v) ∨ (∃ f, op s.work = .fail f ∧ r = .fail f)) := by
  unfold State.run at h
  split at h
  · refine ⟨‹_›, ?_⟩
    split at h
    · exact ⟨_, (Host.Outcome.next.inj h).symm, .inl ⟨_, _, ‹_›, rfl⟩⟩
    · exact ⟨_, (Host.Outcome.next.inj h).symm, .inr ⟨_, ‹_›, rfl⟩⟩
    · cases h
  · cases h

/-- A response changes nothing but the core's own fields. -/
theorem State.answeredBy_respond (s : State) (r : Response) : AnsweredBy s (s.respond r) r :=
  ⟨rfl, rfl, fun _ => rfl, rfl, rfl, rfl, rfl, rfl, rfl⟩

end Sys2Proof.Machine
end

