-- ==== Sys2Proof/Laws/Exec.lean ====
section
/-! SUPPORT. Each instruction as one run of its stages, so that proofs cite the stages' lemmas and unfold no meaning. -/

namespace Sys2Proof.Machine

open Sys2Proof

theorem exec_crc16 (off len : Nat) (s : State) :
    exec (.crc16 off len) s = s.run fun w => (crc16Op s off len w).map .checksum := rfl

theorem exec_scan {allowed : List MsgType} {s : State} (h : s.typesFit allowed = true) :
    exec (.scan allowed) s = s.run fun w => (scanOp s allowed w).map .header := by
  simp [exec, execScan, h]

theorem exec_scan_refused {allowed : List MsgType} {s : State} (h : s.typesFit allowed = false) :
    exec (.scan allowed) s = .refused .allowedOverCapacity := by
  simp [exec, execScan, h]

theorem exec_validate (s : State) : exec .validate s = s.run fun w => (validateOp s w).map .header := rfl

theorem exec_msgOther (s : State) : exec .msgOther s = s.run fun w => (validateOp s w).map .header := rfl

theorem exec_decbl (s : State) : exec .decbl s = s.run fun w => (decblOp s w).map .baseline := rfl

theorem exec_msgBaselineEcef (s : State) : exec .msgBaselineEcef s = s.run fun w => (decblOp s w).map .baseline := rfl

theorem exec_decobs (s : State) : exec .decobs s = s.run fun w => (decobsOp s w).map .observations := rfl

theorem exec_msgObs (s : State) : exec .msgObs s = s.run fun w => (decobsOp s w).map .observations := rfl

theorem exec_obshdr (s : State) :
    exec .obshdr s = s.run fun w => (obsFrame s w).bind fun _ w => (obsHeaderFields s w).map .obsHeader := rfl

theorem exec_obsrec (s : State) :
    exec .obsrec s = s.run fun w => (obsFrame s w).bind fun _ w => (obsRecordsFrom s 0 w.nrec w).map .obsRecords := rfl

/-- The row `BLECEF` is the field stage after the frame stage: the stages of `DECBL`. -/
theorem exec_blecef (s : State) : exec .blecef s = s.run fun w => (decblOp s w).map .baseline := by
  have h : (fun w => (baselineFrame s w).bind fun _ w => (baselineFields s w).map Value.baseline) =
      fun w => (decblOp s w).map .baseline := by
    funext w
    simp only [decblOp]
    cases baselineFrame s w <;> rfl
  exact congrArg s.run h

/-- The empty set is within every capacity. -/
theorem State.typesFit_nil (s : State) : s.typesFit [] = true := by
  unfold State.typesFit
  split <;> simp

/-- A buffer that holds no frame runs the scanner with no filter. -/
theorem execNoFrame_eq (s : State) : execNoFrame s = exec (.scan []) s := by
  rw [exec_scan s.typesFit_nil]
  rfl

/-- Beyond `BUF_CAP` a run is refused. -/
theorem State.run_refused {s : State} {op : Work → Res Value} (h : s.bufFits = false) :
    s.run op = .refused .bufferOverCapacity := by
  simp [State.run, h]

/-- An outcome with a response is a next state that holds it. -/
theorem next_of_responseOf {o : Host.Outcome State Fault Refusal} {r : Response} (h : responseOf o = some r) :
    ∃ t, o = .next t ∧ t.rsp = some r := by
  cases o with
  | next t => exact ⟨t, rfl, h⟩
  | fault => cases h
  | refused => cases h

end Sys2Proof.Machine
end

