-- ==== Sys2Proof/Laws/PerInstr.lean ====
section
/-! SUPPORT. Facts about every instruction as syntax, one lemma per constructor of `Instr`. -/

namespace Sys2Proof.Laws

open Sys2Proof

/-- The decoder accepts the instruction's encoding, whatever its operands. -/
def EncodeAccepted.Statement (i : Instr) : Prop := ∃ j, decode (encode i) = .ok j

theorem EncodeAccepted.crc16 (off len : Nat) : EncodeAccepted.Statement (.crc16 off len) := ⟨_, rfl⟩
theorem EncodeAccepted.scan (allowed : List MsgType) : EncodeAccepted.Statement (.scan allowed) := ⟨_, rfl⟩
theorem EncodeAccepted.validate : EncodeAccepted.Statement .validate := ⟨_, rfl⟩
theorem EncodeAccepted.decbl : EncodeAccepted.Statement .decbl := ⟨_, rfl⟩
theorem EncodeAccepted.decobs : EncodeAccepted.Statement .decobs := ⟨_, rfl⟩
theorem EncodeAccepted.msgObs : EncodeAccepted.Statement .msgObs := ⟨_, rfl⟩
theorem EncodeAccepted.msgBaselineEcef : EncodeAccepted.Statement .msgBaselineEcef := ⟨_, rfl⟩
theorem EncodeAccepted.msgOther : EncodeAccepted.Statement .msgOther := ⟨_, rfl⟩
theorem EncodeAccepted.obshdr : EncodeAccepted.Statement .obshdr := ⟨_, rfl⟩
theorem EncodeAccepted.obsrec : EncodeAccepted.Statement .obsrec := ⟨_, rfl⟩
theorem EncodeAccepted.blecef : EncodeAccepted.Statement .blecef := ⟨_, rfl⟩

end Sys2Proof.Laws
end

