-- ==== Sys2Proof/Tests/Slice0.lean ====
section
/-! SUPPORT. Tests, each with its source in spec/: the refusals of `wellFormed`, words written out from their encodings, one
or two vectors of 95_test_vectors.md per instruction, and for each obligation with hypotheses a state that meets them. -/

namespace Sys2Proof.Tests

open Sys2Proof Sys2Proof.Machine

-- One theorem after another: the kernel evaluations below are not started all at once.
set_option Elab.async false

/-! ## Frames of 95_test_vectors.md -/

/-- V32: a Baseline frame, 28 bytes. -/
def frameFB : List Byte :=
  [0x55, 0x02, 0x02, 0x34, 0x12, 0x14, 0x78, 0x56, 0x34, 0x12, 0xFF, 0xFF, 0xFF, 0xFF, 0xE8, 0x03, 0x00, 0x00, 0x00, 0x00,
   0x00, 0x80, 0x02, 0x01, 0x09, 0x01, 0x71, 0x35]

/-- V41: the payload of `frameFB` under type 0x004A. -/
def frameFX : List Byte :=
  [0x55, 0x4A, 0x00, 0x34, 0x12, 0x14, 0x78, 0x56, 0x34, 0x12, 0xFF, 0xFF, 0xFF, 0xFF, 0xE8, 0x03, 0x00, 0x00, 0x00, 0x00,
   0x00, 0x80, 0x02, 0x01, 0x09, 0x01, 0x85, 0x39]

/-- V50: an Observation frame with no record, 19 bytes. -/
def frameF0 : List Byte :=
  [0x55, 0x4A, 0x00, 0x34, 0x12, 0x0B, 0x00, 0xC2, 0xEB, 0x0B, 0xFB, 0xFF, 0xFF, 0xFF, 0x34, 0x08, 0x20, 0x91, 0xB1]

/-- V51: an Observation frame with one record, 36 bytes. -/
def frameF1 : List Byte :=
  [0x55, 0x4A, 0x00, 0x34, 0x12, 0x1C, 0x00, 0xC2, 0xEB, 0x0B, 0xFB, 0xFF, 0xFF, 0xFF, 0x34, 0x08, 0x10,
   0xD2, 0x02, 0x96, 0x49, 0xC0, 0x1D, 0xFE, 0xFF, 0x80, 0x24, 0xFA, 0x40, 0xA0, 0x0F, 0x21, 0x11, 0x00, 0x2F, 0x08]

/-- V39a: the shortest frame, of an unknown type, 8 bytes. -/
def frameShort : List Byte := [0x55, 0xFF, 0xFF, 0x00, 0x00, 0x00, 0x0C, 0x11]

/-- V53 `F14`: the most records, by the rule that the vector gives for its bytes; 257 bytes. -/
def frameF14 : List Byte :=
  [0x55, 0x4A, 0x00, 0xEF, 0xBE, 0xF9] ++ (List.range 249).map (fun i => BitVec.ofNat 8 (7 * i + 3)) ++ [0x76, 0xA7]

/-- V56: a frame of type 0x004A with `len` 10. -/
def frameLen10 : List Byte :=
  [0x55, 0x4A, 0x00, 0x34, 0x12, 0x0A, 0x00, 0xC2, 0xEB, 0x0B, 0xFB, 0xFF, 0xFF, 0xFF, 0x34, 0x08, 0xFE, 0x42]

/-- V57b: a frame of type 0x004A with `len` 255. -/
def frameLen255 : List Byte := [0x55, 0x4A, 0x00, 0x00, 0x00, 0xFF] ++ List.replicate 255 0 ++ [0xE7, 0x08]

/-- The header of V25. -/
def headFB : List Byte := [0x55, 0x02, 0x02, 0x34, 0x12, 0x14]

/-- The nine ASCII digits of S1. -/
def digits : List Byte := [0x31, 0x32, 0x33, 0x34, 0x35, 0x36, 0x37, 0x38, 0x39]

/-- The machine after reset with a buffer that the host has loaded. -/
def host (bytes : List Byte) : State := State.reset.loadBuffer bytes

/-- `BL_TYPE_CHECK` = 0. -/
def unchecked (s : State) : State := { s with config := { Config.hardware with blTypeCheck := false } }

/-- `FRAG_INDEX_LOW` = 0. -/
def indexHigh (s : State) : State := { s with config := { Config.hardware with fragIndexLow := false } }

/-- The smallest capacities that 00_scope.md R7 allows. -/
def bounded (s : State) : State := { s with config := { Config.hardware with bufCap := some 263, maxTypes := some 2 } }

/-- A command at the port. -/
def command (code : BitVec 3) (s : State) : State := { s with request := some .command, cmd := code }

/-- A frame at the port. -/
def frameAt (bytes : List Byte) : State := { host bytes with request := some .frame }

/-- The response of an instruction on a loaded buffer. -/
def answer (i : Instr) (bytes : List Byte) : Option Response := responseOf (exec i (host bytes))

/-- The record of V40. -/
def recordFB : BaselineECEF :=
  { timeOfWeek := 305419896, x := -1, y := 1000, z := -2147483648, accuracy := 258, satelliteCount := 9, flags := 1 }

/-- The header of V51. -/
def headerF1 : ObservationHeader :=
  { timeOfWeek := 200000000, residualNanoseconds := -5, weekNumber := 2100, fragmentIndex := 0, fragmentTotal := 1 }

/-- The record of V51, with the flags of S2. -/
def recordF1 : ObservationRecord :=
  { pseudorange := 1234567890, carrierPhaseInt := -123456, carrierPhaseFrac := 128, dopplerInt := -1500, dopplerFrac := 64,
    cn0 := 160, lock := 15,
    flags := { pseudorangeValid := true, carrierPhaseValid := false, halfCycleResolved := false, dopplerValid := false,
               reserved := 2, raimExcl := false },
    satId := 17, signalCode := 0 }

/-- The header of V25 and V32. -/
def headerFB : MessageHeader :=
  { preamble := 0x55, messageType := 0x0202, senderId := 0x1234, payloadLength := 20 }

/-! ## Well-formedness -/

theorem test_wellFormed_refuses_repetition : (Instr.scan [0x004A, 0x004A]).wellFormed = false := by decide
theorem test_wellFormed_refuses_disorder : (Instr.scan [0x0202, 0x004A]).wellFormed = false := by decide
theorem test_wellFormed_takes_a_set : (Instr.scan [0x004A, 0x0202]).wellFormed = true := by decide

/-! ## Decoding: words written out bit by bit from 30_encoding.md R110 and R112 -/

/-- R110: `CMD` = 000, with `OFF` and `LEN` beside it. -/
theorem test_decode_crc16 :
    decode { port := .command, bytes := [0b00000000], off := 1, len := 25, allowed := [] } = .ok (.crc16 1 25) := by decide

/-- R110: `CMD` = 001, with `ALLOWED` beside it, listed with a repetition and out of order. -/
theorem test_decode_scan :
    decode { port := .command, bytes := [0b00000001], off := 0, len := 0, allowed := [0x0202, 0x004A, 0x0202] } =
      .ok (.scan [0x004A, 0x0202]) := by decide

/-- R110: `CMD` = 010. -/
theorem test_decode_validate :
    decode { port := .command, bytes := [0b00000010], off := 7, len := 7, allowed := [] } = .ok .validate := by decide

/-- R110: `CMD` = 011. -/
theorem test_decode_decbl :
    decode { port := .command, bytes := [0b00000011], off := 0, len := 0, allowed := [] } = .ok .decbl := by decide

/-- R110: `CMD` = 100. -/
theorem test_decode_decobs :
    decode { port := .command, bytes := [0b00000100], off := 0, len := 0, allowed := [] } = .ok .decobs := by decide

/-- R110: 101, 110 and 111 are reserved. -/
theorem test_decode_reserved : ∀ code : BitVec 3, 5 ≤ code.toNat →
    decode { port := .command, bytes := [code.setWidth 8], off := 0, len := 0, allowed := [] } =
      .error (.reservedCommand code) := by decide

/-- R84, R112: sync, then type 0x004A low byte first. -/
theorem test_decode_msgObs :
    decode { port := .frame, bytes := [0b01010101, 0b01001010, 0b00000000], off := 0, len := 0, allowed := [] } =
      .ok .msgObs := by decide

/-- R84, R112: sync, then type 0x0202. -/
theorem test_decode_msgBaselineEcef :
    decode { port := .frame, bytes := [0b01010101, 0b00000010, 0b00000010], off := 0, len := 0, allowed := [] } =
      .ok .msgBaselineEcef := by decide

/-- R112, V29: sync, then the bytes of 0x004A exchanged, which is type 0x4A00. -/
theorem test_decode_msgOther :
    decode { port := .frame, bytes := [0b01010101, 0b00000000, 0b01001010], off := 0, len := 0, allowed := [] } =
      .ok .msgOther := by decide

/-- R82, R112, V31: one bit off in the sync byte, and no byte at all. -/
theorem test_decode_noFrame :
    decodeFrame [0b01010100, 0b01001010, 0b00000000] = .error .noFrame ∧ decodeFrame [] = .error .noFrame := by decide

/-- R112: a layout has match = mask = 0, so any word at its port is of it. -/
theorem test_decode_layouts :
    decode (formatWord .obsHeader (List.replicate 11 0xFF)) = .ok .obshdr ∧
    decode (formatWord .obsRecords (List.replicate 17 0xFF)) = .ok .obsrec ∧
    decode (formatWord .baseline (List.replicate 20 0xFF)) = .ok .blecef := by decide

/-- R112 as spec/opcode_table.json numbers it: `H` = 0x004A55 is bytes 55 4A 00; code 7 is reserved; a layout by its
length (log 9). -/
theorem test_decodeTableWord :
    decodeTableWord 24 0x004A55 = some .msgObs ∧ decodeTableWord 24 0xFF0255 = some .msgOther ∧
    decodeTableWord 8 0x04 = some .decobs ∧ decodeTableWord 8 0x07 = none ∧
    decodeTableWord 160 (2 ^ 160 - 1) = some .blecef := by decide

/-! ## One step after a word is placed (log 11) -/

/-- R134: with no buffer the empty range answers 0. -/
theorem test_withFetchWord_crc16 :
    responseOf (step (State.reset.withFetchWord 8 0)) = some (.ok (.checksum 0)) := by decide +kernel

/-- A layout word of ones runs as the row `BLECEF`: every field at the end of its range (30_encoding.md R99, R101). -/
theorem test_withFetchWord_blecef :
    responseOf (step (State.reset.withFetchWord 160 (2 ^ 160 - 1))) =
      some (.ok (.baseline { timeOfWeek := 0xFFFFFFFF, x := -1, y := -1, z := -1, accuracy := 0xFFFF, satelliteCount := 0xFF,
                             flags := 0xFF })) := by decide +kernel

/-! ## The operations, on vectors of 95_test_vectors.md -/

theorem test_crc16_V10 : answer (.crc16 2 4) digits = some (.ok (.checksum 0x02A5)) := by decide +kernel
theorem test_crc16_V13 : answer (.crc16 4 0) [0x31, 0x32, 0x33] = some (.fail .bufferTooShort) := by decide +kernel
theorem test_scan_V22 : answer (.scan []) [0x00] = some (.fail .syncMismatch) := by decide +kernel
theorem test_scan_V26 : answer (.scan [0x0202]) headFB = some (.ok (.header headerFB)) := by decide +kernel
theorem test_validate_V35 : answer .validate (frameFB ++ [0x55, 0xAA]) = some (.ok (.header headerFB)) := by decide +kernel
theorem test_validate_V39b :
    answer .validate [0x55, 0xFF, 0xFF, 0x00, 0x00, 0x00, 0x11, 0x0C] = some (.fail .checksumMismatch) := by decide +kernel
theorem test_decbl_V40 : answer .decbl frameFB = some (.ok (.baseline recordFB)) := by decide +kernel
theorem test_decbl_V41_V42 :
    answer .decbl frameFX = some (.fail .typeRejected) ∧
    responseOf (exec .decbl (unchecked (host frameFX))) = some (.ok (.baseline recordFB)) := by decide +kernel
theorem test_decobs_V51 :
    answer .decobs frameF1 = some (.ok (.observations { header := headerF1, records := [recordF1] })) := by decide +kernel

/-- V53, its last record. -/
theorem test_decobs_V53 :
    (match answer .decobs frameF14 with
      | some (.ok (.observations m)) => m.records[13]?
      | _ => none) =
      some { pseudorange := 1885954651, carrierPhaseInt := -1937408393, carrierPhaseFrac := 147, dopplerInt := -24166,
             dopplerFrac := 168, cn0 := 175, lock := 182,
             flags := { pseudorangeValid := true, carrierPhaseValid := false, halfCycleResolved := true,
                        dopplerValid := true, reserved := 3, raimExcl := true },
             satId := 196, signalCode := 203 } := by decide +kernel

/-! ## The format rows, by the vectors of the rules they cite -/

/-- V59a: the other nibble order. -/
theorem test_msgObs_V59a :
    responseOf (exec .msgObs (indexHigh (host frameF1))) =
      some (.ok (.observations
        { header := { headerF1 with fragmentIndex := 1, fragmentTotal := 0 }, records := [recordF1] })) := by decide +kernel
theorem test_msgObs_V54 : answer .msgObs frameFB = some (.fail .typeRejected) := by decide +kernel
theorem test_msgBaselineEcef_V40 : answer .msgBaselineEcef frameFB = some (.ok (.baseline recordFB)) := by decide +kernel

/-- V46. -/
theorem test_blecef_V46 :
    responseOf (exec .blecef (unchecked (host [0x55, 0x02, 0x02, 0x34, 0x12, 0x00, 0x9F, 0xD5]))) =
      some (.fail .malformedLength) := by decide +kernel
theorem test_msgOther_V39a :
    answer .msgOther frameShort =
      some (.ok (.header { preamble := 0x55, messageType := 0xFFFF, senderId := 0, payloadLength := 0 })) := by
  decide +kernel

/-- V50. -/
theorem test_obshdr_V50 :
    answer .obshdr frameF0 = some (.ok (.obsHeader { headerF1 with fragmentTotal := 2 })) := by decide +kernel
theorem test_obsrec_V51 : answer .obsrec frameF1 = some (.ok (.obsRecords [recordF1])) := by decide +kernel
theorem test_obsrec_V56 : answer .obsrec frameLen10 = some (.fail .malformedLength) := by decide +kernel

/-! ## Witnesses: a state that meets all the hypotheses of an obligation -/

theorem witness_DecodeEncodeRoundTrip :
    (Instr.scan [0x004A, 0x0202]).wellFormed = true ∧ (Instr.crc16 1 25).wellFormed = true := by decide

theorem witness_DecodedInstructionsAreWellFormed :
    decode (commandWord 1 0 0 [0x0202, 0x004A]) = .ok (.scan [0x004A, 0x0202]) := by decide

theorem witness_AllowedOperandIsASet :
    ∀ t : MsgType, t ∈ ([0x004A, 0x0202] : List MsgType) ↔ t ∈ ([0x0202, 0x004A, 0x0202] : List MsgType) := by
  intro t
  simp only [List.mem_cons, List.not_mem_nil, or_false]
  tauto

theorem witness_StepRunsTheDecodedInstruction :
    ((command 2 (host frameFB)).fetch = some (commandWord 2 0 0 []) ∧ decode (commandWord 2 0 0 []) = .ok .validate) ∧
    ((frameAt headFB).fetch = some (formatWord .frame [0x55, 0x02, 0x02]) ∧
      decode (formatWord .frame [0x55, 0x02, 0x02]) = .ok .msgBaselineEcef) ∧
    State.reset.request = none := by decide +kernel

theorem witness_CommandCodesSelectTheOperations :
    ((command 0 State.reset).request = some .command ∧ (command 0 State.reset).cmd = 0) ∧
    ((command 1 State.reset).request = some .command ∧ (command 1 State.reset).cmd = 1) ∧
    ((command 2 State.reset).request = some .command ∧ (command 2 State.reset).cmd = 2) ∧
    ((command 3 State.reset).request = some .command ∧ (command 3 State.reset).cmd = 3) ∧
    ((command 4 State.reset).request = some .command ∧ (command 4 State.reset).cmd = 4) := by decide

/-- Codes 5 and 7 are refused; code 4 is not. -/
theorem witness_ReservedCommandsAreRefusedByName :
    ((command 5 State.reset).request = some .command ∧ 5 ≤ (command 5 State.reset).cmd.toNat) ∧
    ((command 7 State.reset).request = some .command ∧ 5 ≤ (command 7 State.reset).cmd.toNat) ∧
    ((command 4 State.reset).request = some .command ∧ ¬ 5 ≤ (command 4 State.reset).cmd.toNat) := by decide

/-- The three kinds, in buffers of three bytes. -/
theorem witness_FrameKindSelectsTheDecoder :
    ((frameAt [0x55, 0x4A, 0x00]).request = some .frame ∧ 3 ≤ (frameAt [0x55, 0x4A, 0x00]).bufLen ∧
      (frameAt [0x55, 0x4A, 0x00]).byte 0 = 0x55 ∧ (frameAt [0x55, 0x4A, 0x00]).half 1 = 0x004A) ∧
    ((frameAt [0x55, 0x02, 0x02]).byte 0 = 0x55 ∧ (frameAt [0x55, 0x02, 0x02]).half 1 = 0x0202) ∧
    ((frameAt [0x55, 0x00, 0x4A]).byte 0 = 0x55 ∧ (frameAt [0x55, 0x00, 0x4A]).half 1 ≠ 0x004A ∧
      (frameAt [0x55, 0x00, 0x4A]).half 1 ≠ 0x0202) := by decide +kernel

/-- An empty buffer; one byte that is not the sync value. -/
theorem witness_NoFrameEndsInTheScanner :
    ((frameAt []).request = some .frame ∧ (frameAt []).bufFits = true ∧ (frameAt []).bufLen = 0) ∧
    ((frameAt [0x54]).request = some .frame ∧ (frameAt [0x54]).bufFits = true ∧ 1 ≤ (frameAt [0x54]).bufLen ∧
      (frameAt [0x54]).byte 0 ≠ 0x55) := by decide +kernel

/-- The whole buffer, and the empty range at its end (V11). -/
theorem witness_Crc16AnswersThePolynomialChecksum :
    (host digits).bufFits = true ∧ 0 + 9 ≤ (host digits).bufLen ∧ 9 + 0 ≤ (host digits).bufLen := by decide +kernel

/-- One byte too many (V12); the empty range beyond the end (V13); a frame that fills the buffer. -/
theorem witness_Crc16OutsideTheBufferFails :
    ((host digits).bufFits = true ∧ (host digits).bufLen < 1 + 9 ∧ (host digits).bufLen < 10 + 0) ∧
    8 + (host frameFB).payloadLen ≤ (host frameFB).bufLen := by decide +kernel

theorem witness_ChecksumZerosLinearityResidue : digits.length = [0x00, 1, 2, 3, 4, 5, 6, 7, (8 : Byte)].length := by decide

theorem witness_SingleByteErrorsChangeTheChecksum : (0x00 : Byte) ≠ 0x80 := by decide

theorem witness_ScanEndsInItsFirstFailingTest :
    (bounded (host headFB)).bufFits = true ∧ (bounded (host headFB)).typesFit [0x004A, 0x0202] = true := by decide +kernel

/-- Six bytes, with a filter and without one. -/
theorem witness_ScanReturnsTheWholeHeader :
    (host headFB).bufFits = true ∧ (host headFB).typesFit [0x0202] = true ∧ (host headFB).typesFit [] = true ∧
    6 ≤ (host headFB).bufLen ∧ (host headFB).byte 0 = 0x55 ∧ (host headFB).half 1 ∈ ([0x0202] : List MsgType) := by
  decide +kernel

/-- With a filter within its capacity, and for the validator. -/
theorem witness_WrongFirstByteFailsScanValidatorAndDecoders :
    ((∃ allowed, Instr.scan [0x0202] = .scan allowed ∧ (bounded (host [0x54])).typesFit allowed = true) ∨
      Instr.scan [0x0202] = .validate ∨ Instr.scan [0x0202] = .decbl ∨ Instr.scan [0x0202] = .decobs) ∧
    ((∃ allowed, Instr.validate = .scan allowed ∧ (bounded (host [0x54])).typesFit allowed = true) ∨
      Instr.validate = .validate ∨ Instr.validate = .decbl ∨ Instr.validate = .decobs) ∧
    (bounded (host [0x54])).bufFits = true ∧ 1 ≤ (bounded (host [0x54])).bufLen ∧ (bounded (host [0x54])).byte 0 ≠ 0x55 :=
  ⟨.inl ⟨_, rfl, by decide⟩, .inr (.inl rfl), by decide, by decide, by decide +kernel⟩

/-- No byte (V20), and five (V23). -/
theorem witness_ShortBuffersFailEverywhere :
    (∀ off len, Instr.decobs ≠ .crc16 off len) ∧
    (∀ allowed, Instr.decobs = .scan allowed → (host []).typesFit allowed = true) ∧
    (∀ allowed, Instr.decobs = .scan allowed → (host (headFB.take 5)).typesFit allowed = true) ∧
    (host []).bufFits = true ∧ (host []).bufLen < 6 ∧
    (host (headFB.take 5)).bufFits = true ∧ (host (headFB.take 5)).bufLen < 6 :=
  ⟨nofun, nofun, nofun, by decide, by decide, by decide, by decide⟩

theorem witness_ValidateEndsInItsFirstFailingStep : (host frameShort).bufFits = true := by decide

theorem witness_CertifiedFramesValidate :
    (host frameShort).bufFits = true ∧ (host frameShort).certified = true := by decide +kernel

theorem witness_MsgOtherEndsInItsFirstFailingStep : (host frameFB).bufFits = true := by decide

theorem witness_OnlyCertifiedFramesSucceed :
    (∀ off len, Instr.decbl ≠ .crc16 off len) ∧ (∀ allowed, Instr.decbl ≠ .scan allowed) ∧
    ∃ t, exec .decbl (host frameFB) = .next t ∧ t.rsp = some (.ok (.baseline recordFB)) :=
  ⟨nofun, nofun, next_of_responseOf test_decbl_V40⟩

theorem witness_BytesAfterTheFrameAreIgnored :
    (∀ off len, Instr.validate ≠ .crc16 off len) ∧ (host frameFB).config = (host (frameFB ++ [0x55, 0xAA])).config ∧
    (host frameFB).bufFits = true ∧ (host (frameFB ++ [0x55, 0xAA])).bufFits = true ∧ (host frameFB).certified = true ∧
    8 + (host frameFB).payloadLen ≤ (host (frameFB ++ [0x55, 0xAA])).bufLen ∧
    (∀ a, a < 8 + (host frameFB).payloadLen → (host (frameFB ++ [0x55, 0xAA])).byte a = (host frameFB).byte a) :=
  ⟨nofun, by decide, by decide, by decide, by decide +kernel, by decide +kernel, by decide +kernel⟩

/-- `frameFB` with byte `k` inverted. -/
def changedAt (k : Nat) : List Byte := frameFB.set k (~~~ frameFB.getD k 0)

/-- The changed byte and the bytes before and after it, as far as the frame goes. -/
theorem changed_bytes : ∀ k ∈ [1, 4, 6, 27],
    (host (changedAt k)).bufFits = true ∧ (host (changedAt k)).bufLen = (host frameFB).bufLen ∧
    1 ≤ k ∧ k < 8 + (host frameFB).payloadLen ∧ k ≠ 5 ∧ (host (changedAt k)).byte k ≠ (host frameFB).byte k ∧
    ∀ a < 28, a ≠ k → (host (changedAt k)).byte a = (host frameFB).byte a := by decide +kernel

/-- The first byte of the type, the last of the sender, the first of the payload, the last of the trailer. -/
theorem witness_OneChangedByteIsAChecksumMismatch : ∀ k ∈ [1, 4, 6, 27],
    (∀ off len, Instr.validate ≠ .crc16 off len) ∧ (∀ allowed, Instr.validate ≠ .scan allowed) ∧
    (host frameFB).certified = true ∧ (host (changedAt k)).bufFits = true ∧
    (host (changedAt k)).bufLen = (host frameFB).bufLen ∧ 1 ≤ k ∧ k < 8 + (host frameFB).payloadLen ∧ k ≠ 5 ∧
    (host (changedAt k)).byte k ≠ (host frameFB).byte k ∧
    (∀ a, a ≠ k → (host (changedAt k)).byte a = (host frameFB).byte a) := by
  intro k hk
  obtain ⟨h1, h2, h3, h4, h5, h6, h7⟩ := changed_bytes k hk
  refine ⟨nofun, nofun, by decide +kernel, h1, h2, h3, h4, h5, h6, fun a ha => ?_⟩
  by_cases hl : a < 28
  · exact h7 a hl ha
  · rw [host, host, State.byte_loadBuffer, State.byte_loadBuffer, List.getD_eq_default _ _ (by simp [changedAt, frameFB]; omega),
      List.getD_eq_default _ _ (by simp [frameFB]; omega)]

theorem witness_BaselineEndsInItsFirstFailingTest : (unchecked (host frameFX)).bufFits = true := by decide

/-- With the type check, and without it under another type. -/
theorem witness_CertifiedBaselinesDecode :
    ((host frameFB).bufFits = true ∧ (host frameFB).certified = true ∧ (host frameFB).payloadLen = 20 ∧
      ((host frameFB).config.blTypeCheck = true → (host frameFB).half 1 = 0x0202)) ∧
    ((unchecked (host frameFX)).bufFits = true ∧ (unchecked (host frameFX)).certified = true ∧
      (unchecked (host frameFX)).payloadLen = 20 ∧
      ((unchecked (host frameFX)).config.blTypeCheck = true → (unchecked (host frameFX)).half 1 = 0x0202)) := by
  decide +kernel

theorem witness_BaselineRoundTrip :
    recordFB.wf = true ∧
    (State.reset.loadBuffer (frameBytes 0x0202 0x1234 (baselinePayload recordFB) ++ [0x55])).bufFits = true := by
  decide +kernel

/-- The builder of statements gives the vector's own bytes (log 18). -/
theorem test_frameBytes_V32 : frameBytes 0x0202 0x1234 (baselinePayload recordFB) = frameFB := by decide +kernel

/-- And those of V51. -/
theorem test_frameBytes_V51 :
    frameBytes 0x004A 0x1234 (observationPayload true { header := headerF1, records := [recordF1] }) = frameF1 := by
  decide +kernel

theorem witness_ObservationEndsInItsFirstFailingTest : (host frameF1).bufFits = true := by decide

theorem witness_ObservationLayoutsEndInTheFirstFailingTest : (host frameFB).bufFits = true := by decide

/-- No record, and fourteen. -/
theorem witness_CertifiedObservationsDecode :
    ((host frameF0).bufFits = true ∧ (host frameF0).certified = true ∧ (host frameF0).half 1 = 0x004A ∧
      (host frameF0).payloadLen = 11 + 17 * 0) ∧
    ((host frameF14).bufFits = true ∧ (host frameF14).certified = true ∧ (host frameF14).half 1 = 0x004A ∧
      (host frameF14).payloadLen = 11 + 17 * 14) := by decide +kernel

/-- The legal lengths at the ends of their range, and the illegal ones next to them that have vectors. -/
theorem witness_LegalObservationLengths :
    ((host frameF0).bufFits = true ∧ (host frameF0).certified = true ∧ (host frameF0).half 1 = 0x004A ∧
      (host frameF0).payloadLen = 11) ∧
    ((host frameF14).bufFits = true ∧ (host frameF14).certified = true ∧ (host frameF14).half 1 = 0x004A ∧
      (host frameF14).payloadLen = 249) ∧
    ((host frameLen10).bufFits = true ∧ (host frameLen10).certified = true ∧ (host frameLen10).half 1 = 0x004A ∧
      (host frameLen10).payloadLen = 10) ∧
    ((host frameLen255).bufFits = true ∧ (host frameLen255).certified = true ∧ (host frameLen255).half 1 = 0x004A ∧
      (host frameLen255).payloadLen = 255) := by decide +kernel

/-- No record under one nibble order; fourteen under the other. -/
theorem witness_ObservationRoundTrip :
    (headerF1.wf = true ∧ obsRecordsWf [] = true ∧ obsRecordsWf (List.replicate 14 recordF1) = true) ∧
    (State.reset.loadBuffer
      (frameBytes 0x004A 7 (observationPayload true { header := headerF1, records := [] }) ++ [0x55])).bufFits = true ∧
    ((indexHigh State.reset).loadBuffer
      (frameBytes 0x004A 7
        (observationPayload false { header := headerF1, records := List.replicate 14 recordF1 }))).bufFits = true :=
  ⟨by decide +kernel, rfl, rfl⟩

theorem witness_DecodedObservationsLoseNoByte :
    ∃ t, exec .decobs (host frameF1) = .next t ∧
      t.rsp = some (.ok (.observations { header := headerF1, records := [recordF1] })) :=
  next_of_responseOf test_decobs_V51

theorem witness_SignedFieldsAreTwosComplement : 0 < 1 ∧ 0 < 16 ∧ 0 < 32 := by decide

/-- A buffer of 264 bytes beyond a capacity of 263. -/
theorem witness_OverCapacityIsRefused :
    ((bounded (host (List.replicate 264 0))).bufFits = false ∧
      ∀ allowed, Instr.decbl = .scan allowed → (bounded (host (List.replicate 264 0))).typesFit allowed = true) ∧
    (bounded (host headFB)).typesFit [0, 1, 2] = false :=
  ⟨⟨by decide +kernel, nofun⟩, by decide +kernel⟩

theorem witness_OnlyCapacitiesAreRefused :
    exec .decbl (bounded (host (List.replicate 264 0))) = .refused .bufferOverCapacity ∧
    exec (.scan [0, 1, 2]) (bounded (host headFB)) = .refused .allowedOverCapacity := by
  exact ⟨(exec_decbl _).trans (State.run_refused (by decide +kernel)), exec_scan_refused (by decide +kernel)⟩

theorem witness_EveryInstructionAnswersOnThisHardware : (host frameFB).config = Config.hardware := by decide

theorem witness_OnlyTheResponseChanges : ∃ t, exec .decbl (host frameFB) = .next t :=
  (next_of_responseOf test_decbl_V40).imp fun _ h => h.1

/-- Two states that differ in the last response, the working registers and the counter. -/
theorem witness_ResponsesIgnoreHistory :
    SameOperands (command 3 (host frameFB))
      { command 3 (host frameFB) with rsp := some (.fail .syncMismatch), work := { Work.reset with acc := 1 }, draws := 7 } ∧
    (command 3 (host frameFB)).request ≠ none :=
  ⟨⟨rfl, rfl, rfl, rfl, rfl, rfl, fun _ _ => rfl, rfl⟩, by decide⟩

theorem witness_RepeatedOperationsRepeatTheirResponse :
    ∃ t, exec .decbl (host frameFX) = .next t ∧ t.rsp = some (.fail .typeRejected) :=
  next_of_responseOf test_decbl_V41_V42.1

theorem witness_StepKeepsTheInvariant :
    (command 3 (host frameFB)).inv = true ∧ ∃ t, step (command 3 (host frameFB)) = .next t :=
  ⟨by decide +kernel,
    (next_of_responseOf (by decide +kernel : responseOf (step (command 3 (host frameFB))) = some (.ok (.baseline recordFB)))).imp
      fun _ h => h.1⟩

/-- A failure of each family. -/
theorem witness_FailuresOfEachOperation :
    (∃ t, exec (.crc16 4 0) (host [0x31, 0x32, 0x33]) = .next t ∧ t.rsp = some (.fail .bufferTooShort)) ∧
    (∃ t, exec (.scan [0x004A]) (host headFB) = .next t ∧ t.rsp = some (.fail .typeRejected)) ∧
    (∃ t, exec .validate (host headFB) = .next t ∧ t.rsp = some (.fail .bufferTooShort)) ∧
    (∃ t, exec .decbl (host frameFX) = .next t ∧ t.rsp = some (.fail .typeRejected)) ∧
    (∃ t, exec .obsrec (host frameLen10) = .next t ∧ t.rsp = some (.fail .malformedLength)) :=
  ⟨next_of_responseOf test_crc16_V13, next_of_responseOf (by decide +kernel), next_of_responseOf (by decide +kernel),
    next_of_responseOf test_decbl_V41_V42.1, next_of_responseOf test_obsrec_V56⟩

/-- A success of each family. -/
theorem witness_ValueTypeOfEachOperation :
    (∃ t, exec (.crc16 2 4) (host digits) = .next t ∧ t.rsp = some (.ok (.checksum 0x02A5))) ∧
    (∃ t, exec (.scan [0x0202]) (host headFB) = .next t ∧ t.rsp = some (.ok (.header headerFB))) ∧
    (∃ t, exec .decbl (host frameFB) = .next t ∧ t.rsp = some (.ok (.baseline recordFB))) ∧
    (∃ t, exec .decobs (host frameF1) = .next t ∧
      t.rsp = some (.ok (.observations { header := headerF1, records := [recordF1] }))) ∧
    (∃ t, exec .obshdr (host frameF0) = .next t ∧ t.rsp = some (.ok (.obsHeader { headerF1 with fragmentTotal := 2 }))) ∧
    (∃ t, exec .obsrec (host frameF1) = .next t ∧ t.rsp = some (.ok (.obsRecords [recordF1]))) :=
  ⟨next_of_responseOf test_crc16_V10, next_of_responseOf test_scan_V26, next_of_responseOf test_decbl_V40,
    next_of_responseOf test_decobs_V51, next_of_responseOf test_obshdr_V50, next_of_responseOf test_obsrec_V51⟩

/-! ## A program of 95_test_vectors.md part C -/

/-- One request of a command. -/
def request (code : BitVec 3) (off len : Nat) (allowed : List MsgType) (bytes : List Byte) : Request :=
  { port := .command, cmd := code, off := off, len := len, allowed := allowed, bytes := bytes }

/-- Program P1's last three steps. -/
theorem test_program_P1 :
    runProgram State.reset [request 2 0 0 [] frameFB, request 4 0 0 [] frameFB, request 3 0 0 [] frameFB] =
      [some (.ok (.header headerFB)), some (.fail .typeRejected), some (.ok (.baseline recordFB))] := by
  decide +kernel

end Sys2Proof.Tests
end

