-- ==== Sys2Proof/Proofs/Responses.lean ====
section
/-! PROOF. The response of every instruction as a function of the buffer, the operands and the configuration, and that
function under `SameOperands`: a response depends on nothing that an earlier operation leaves behind (10_state.md R20). -/

namespace Sys2Proof.Machine

open Sys2Proof

/-! ## What a stage's end means to the host -/

/-- The response that the end of an operation's last stage delivers; a fault delivers none. -/
def Res.response : Res Value → Option Response
  | .ok v _ => some (.ok v)
  | .fail f => some (.fail f)
  | .fault _ => none

@[simp] theorem Res.response_ok (v : Value) (w : Work) : (Res.ok v w).response = some (.ok v) := rfl
@[simp] theorem Res.response_fail (f : Failure) : (Res.fail f : Res Value).response = some (.fail f) := rfl
@[simp] theorem Res.response_fault (r : Fault) : (Res.fault r : Res Value).response = none := rfl

@[simp] theorem verdict_none (v : Value) : verdict none v = .ok v := rfl
@[simp] theorem verdict_some (f : Failure) (v : Value) : verdict (some f) v = .fail f := rfl

/-- Verdicts agree when the tests do and, where no test fails, the values do. -/
theorem verdict_congr {f g : Option Failure} {v u : Value} (hf : f = g) (hv : f = none → v = u) :
    verdict f v = verdict g u := by
  subst hf
  cases f with
  | none => rw [hv rfl]
  | some f => rfl

/-- A run within capacity responds as its stages end; beyond it there is no response. -/
theorem responseOf_run (s : State) (op : Work → Res Value) :
    responseOf (s.run op) = if s.bufFits = true then (op s.work).response else none := by
  by_cases hfit : s.bufFits = true
  · rw [if_pos hfit]
    cases hop : op s.work with
    | ok v w => rw [State.run_ok hfit hop]; rfl
    | fail f => rw [State.run_fail hfit hop]; rfl
    | fault r => simp [State.run, hfit, hop, responseOf]
  · rw [if_neg hfit, State.run_refused (Bool.eq_false_iff.mpr hfit)]
    rfl

/-! ## The response of each operation's stages -/

/-- The failure of the range test of `CRC16` (40_checksum.md R134), if the range leaves the buffer. -/
def State.crcFailure (s : State) (off len : Nat) : Option Failure :=
  if s.bufLen < off + len then some .bufferTooShort else none

theorem crc16Op_response (s : State) (off len : Nat) (w : Work) :
    ((crc16Op s off len w).map .checksum).response =
      some (verdict (s.crcFailure off len) (.checksum (crcOf (s.bytesAt off len)))) := by
  unfold State.crcFailure
  rcases crc16Op_eq s off len w with ⟨hlt, e⟩ | ⟨hle, i, e⟩
  · simp [e, hlt]
  · simp [e, Nat.not_lt.mpr hle]

theorem scanOp_response (s : State) (allowed : List MsgType) (w : Work) :
    ((scanOp s allowed w).map .header).response = some (verdict (s.scanFailure allowed) (.header s.header)) := by
  rw [scanOp_eq]
  cases s.scanFailure allowed <;> rfl

theorem validateOp_response (s : State) (w : Work) :
    ((validateOp s w).map .header).response = some (verdict s.frameFailure (.header s.header)) := by
  rcases validateOp_eq s w with ⟨f, hf, e⟩ | ⟨hf, w', e, _⟩ <;> simp [e, hf]

theorem decblOp_response (s : State) (w : Work) :
    ((decblOp s w).map .baseline).response = some (verdict s.baselineFailure (.baseline s.baselineRecord)) := by
  rcases decblOp_eq s w with ⟨f, hf, e⟩ | ⟨hf, _, _, w', e⟩ <;> simp [e, hf]

/-- The message of the Observation frame in `BUF`. -/
def State.observationMessage (s : State) : ObservationMessage :=
  { header := s.observationHeader, records := s.observationRecords s.recordCount }

theorem decobsOp_response (s : State) (w : Work) :
    ((decobsOp s w).map .observations).response =
      some (verdict s.obsFailure (.observations s.observationMessage)) := by
  rcases decobsOp_eq s w with ⟨f, hf, e⟩ | ⟨hf, _, _, w', e⟩ <;> simp [e, hf, State.observationMessage]

theorem obshdr_response (s : State) (w : Work) :
    ((obsFrame s w).bind fun _ w => (obsHeaderFields s w).map .obsHeader).response =
      some (verdict s.obsFailure (.obsHeader s.observationHeader)) := by
  rcases obsFrame_eq s w with ⟨f, hf, e⟩ | ⟨hf, hc, hl, w', e, _⟩
  · simp [e, hf]
  · have h8 := State.certified_length hc
    rw [e, hf, Res.bind_ok, obsHeaderFields_eq (by omega)]
    rfl

theorem obsrec_response (s : State) (w : Work) :
    ((obsFrame s w).bind fun _ w => (obsRecordsFrom s 0 w.nrec w).map .obsRecords).response =
      some (verdict s.obsFailure (.obsRecords (s.observationRecords s.recordCount))) := by
  rcases obsFrame_eq s w with ⟨f, hf, e⟩ | ⟨hf, hc, hl, w', e, hn⟩
  · simp [e, hf]
  · have h8 := State.certified_length hc
    obtain ⟨w2, e2, _⟩ := obsRecordsFrom_zero_eq (s := s) (n := s.recordCount) (by omega) w'
    rw [e, hf, Res.bind_ok, hn, e2]
    rfl

/-! ## The response of each instruction -/

/-- No capacity stands against the instruction (93_implementation_defined.md U7, U8). -/
def State.accepts (s : State) : Instr → Bool
  | .scan allowed => s.typesFit allowed && s.bufFits
  | _ => s.bufFits

/-- The response of an accepted instruction: its tests' first failure, or the value its rule reads off the buffer. Neither the
working registers nor the last response nor the draws of free values occur in it. -/
def State.answer (s : State) : Instr → Response
  | .crc16 off len => verdict (s.crcFailure off len) (.checksum (crcOf (s.bytesAt off len)))
  | .scan allowed => verdict (s.scanFailure allowed) (.header s.header)
  | .validate | .msgOther => verdict s.frameFailure (.header s.header)
  | .decbl | .msgBaselineEcef | .blecef => verdict s.baselineFailure (.baseline s.baselineRecord)
  | .decobs | .msgObs => verdict s.obsFailure (.observations s.observationMessage)
  | .obshdr => verdict s.obsFailure (.obsHeader s.observationHeader)
  | .obsrec => verdict s.obsFailure (.obsRecords (s.observationRecords s.recordCount))

/-- Every instruction responds with its answer when it is accepted, and not at all when a capacity refuses it. -/
theorem responseOf_exec (i : Instr) (s : State) :
    responseOf (exec i s) = if s.accepts i = true then some (s.answer i) else none := by
  cases i with
  | crc16 off len => rw [exec_crc16, responseOf_run, crc16Op_response]; rfl
  | scan allowed =>
    cases ht : s.typesFit allowed with
    | true => rw [exec_scan ht, responseOf_run, scanOp_response, State.accepts, ht]; rfl
    | false => rw [exec_scan_refused ht, State.accepts, ht]; rfl
  | validate => rw [exec_validate, responseOf_run, validateOp_response]; rfl
  | msgOther => rw [exec_msgOther, responseOf_run, validateOp_response]; rfl
  | decbl => rw [exec_decbl, responseOf_run, decblOp_response]; rfl
  | msgBaselineEcef => rw [exec_msgBaselineEcef, responseOf_run, decblOp_response]; rfl
  | blecef => rw [exec_blecef, responseOf_run, decblOp_response]; rfl
  | decobs => rw [exec_decobs, responseOf_run, decobsOp_response]; rfl
  | msgObs => rw [exec_msgObs, responseOf_run, decobsOp_response]; rfl
  | obshdr => rw [exec_obshdr, responseOf_run, obshdr_response]; rfl
  | obsrec => rw [exec_obsrec, responseOf_run, obsrec_response]; rfl

/-! ## How much of the buffer exists where no test fails -/

theorem State.length_of_scanFailure_none {s : State} {allowed : List MsgType} (h : s.scanFailure allowed = none) :
    6 ≤ s.bufLen := by
  by_contra hlt
  simp only [State.scanFailure, Nat.lt_of_not_le hlt, if_true] at h
  split_ifs at h

theorem State.length_of_frameFailure_none {s : State} (h : s.frameFailure = none) : 8 + s.payloadLen ≤ s.bufLen :=
  State.certified_length ((State.certified_iff s).mpr h)

theorem State.length_of_baselineFailure_none {s : State} (h : s.baselineFailure = none) : 28 ≤ s.bufLen := by
  rcases baselineFrame_eq s s.work with ⟨f, hf, _⟩ | ⟨_, hc, hl, _⟩
  · cases h.symm.trans hf
  · have := State.certified_length hc
    omega

theorem State.length_of_obsFailure_none {s : State} (h : s.obsFailure = none) :
    19 + 17 * s.recordCount ≤ s.bufLen := by
  rcases obsFrame_eq s s.work with ⟨f, hf, _⟩ | ⟨_, hc, hl, _⟩
  · cases h.symm.trans hf
  · have := State.certified_length hc
    omega

/-! ## The same operands: reads of bytes that exist -/

namespace SameOperands

variable {s t : State}

theorem byte_eq (h : SameOperands s t) {a : Nat} (ha : a + 1 ≤ s.bufLen) : s.byte a = t.byte a := h.bytes a ha

theorem half_eq (h : SameOperands s t) {a : Nat} (ha : a + 2 ≤ s.bufLen) : s.half a = t.half a := by
  rw [State.half, h.byte_eq (by omega), h.byte_eq (by omega), State.half]

theorem full_eq (h : SameOperands s t) {a : Nat} (ha : a + 4 ≤ s.bufLen) : s.full a = t.full a := by
  rw [State.full, h.byte_eq (by omega), h.byte_eq (by omega), h.byte_eq (by omega), h.byte_eq (by omega), State.full]

theorem bytesAt_eq (h : SameOperands s t) {a n : Nat} (ha : a + n ≤ s.bufLen) : s.bytesAt a n = t.bytesAt a n :=
  State.bytesAt_congr fun _ _ => h.byte_eq (by omega)

/-! ## The same operands: the values of the operations -/

theorem payloadLen_eq (h : SameOperands s t) (ha : 6 ≤ s.bufLen) : s.payloadLen = t.payloadLen :=
  congrArg BitVec.toNat (h.byte_eq ha)

theorem recordCount_eq (h : SameOperands s t) (ha : 6 ≤ s.bufLen) : s.recordCount = t.recordCount := by
  rw [State.recordCount, h.payloadLen_eq ha, State.recordCount]

theorem header_eq (h : SameOperands s t) (ha : 6 ≤ s.bufLen) : s.header = t.header := by
  rw [State.header, h.byte_eq (by omega), h.half_eq (by omega), h.half_eq (by omega), h.byte_eq (by omega), State.header]

theorem baselineRecord_eq (h : SameOperands s t) (ha : 26 ≤ s.bufLen) : s.baselineRecord = t.baselineRecord := by
  rw [State.baselineRecord, h.full_eq (by omega), h.full_eq (by omega), h.full_eq (by omega), h.full_eq (by omega),
    h.half_eq (by omega), h.byte_eq (by omega), h.byte_eq (by omega), State.baselineRecord]

theorem observationHeader_eq (h : SameOperands s t) (ha : 17 ≤ s.bufLen) :
    s.observationHeader = t.observationHeader := by
  rw [State.observationHeader, h.full_eq (by omega), h.full_eq (by omega), h.half_eq (by omega),
    h.byte_eq (by omega), h.config, State.observationHeader]

theorem observationRecord_eq (h : SameOperands s t) {k : Nat} (ha : 34 + 17 * k ≤ s.bufLen) :
    s.observationRecord k = t.observationRecord k := by
  have one : ∀ j, j + 1 ≤ 17 → s.byte (17 + 17 * k + j) = t.byte (17 + 17 * k + j) := fun j hj => h.byte_eq (by omega)
  simp only [State.observationRecord, h.full_eq (show 17 + 17 * k + 4 ≤ s.bufLen by omega),
    h.full_eq (show 17 + 17 * k + 4 + 4 ≤ s.bufLen by omega), h.half_eq (show 17 + 17 * k + 9 + 2 ≤ s.bufLen by omega),
    one 8 (by decide), one 11 (by decide), one 12 (by decide), one 13 (by decide), one 14 (by decide),
    one 15 (by decide), one 16 (by decide)]

theorem observationRecords_eq (h : SameOperands s t) {n : Nat} (ha : 17 + 17 * n ≤ s.bufLen) :
    s.observationRecords n = t.observationRecords n :=
  List.map_congr_left fun k hk => h.observationRecord_eq (by have := List.mem_range.mp hk; omega)

/-! ## The same operands: the tests of the operations

Each test reads only bytes that the tests before it have shown to exist (20_memory.md R59). -/

theorem crcFailure_eq (h : SameOperands s t) (off len : Nat) : s.crcFailure off len = t.crcFailure off len := by
  rw [State.crcFailure, h.bufLen, State.crcFailure]

theorem scanFailure_eq (h : SameOperands s t) (allowed : List MsgType) : s.scanFailure allowed = t.scanFailure allowed := by
  unfold State.scanFailure
  have hbuf := h.bufLen
  refine ite_congr (by rw [h.bufLen]) (fun _ => rfl) fun h0 => ?_
  refine ite_congr (by rw [h.byte_eq (by omega)]) (fun _ => rfl) fun _ => ?_
  refine ite_congr (by rw [h.bufLen]) (fun _ => rfl) fun h6 => ?_
  rw [h.half_eq (by omega)]

theorem frameFailure_eq (h : SameOperands s t) : s.frameFailure = t.frameFailure := by
  unfold State.frameFailure
  have hbuf := h.bufLen
  refine ite_congr (by rw [h.bufLen]) (fun _ => rfl) fun h0 => ?_
  refine ite_congr (by rw [h.byte_eq (by omega)]) (fun _ => rfl) fun _ => ?_
  refine ite_congr (by rw [h.bufLen]) (fun _ => rfl) fun h6 => ?_
  have hlen : s.payloadLen = t.payloadLen := h.payloadLen_eq (by omega)
  refine ite_congr (by rw [h.bufLen, hlen]) (fun _ => rfl) fun h8 => ?_
  have hcomputed : s.computedChecksum = t.computedChecksum := by
    rw [State.computedChecksum, h.bytesAt_eq (by omega), hlen, State.computedChecksum]
  have hstored : s.storedChecksum = t.storedChecksum := by
    rw [State.storedChecksum, h.half_eq (by omega), hlen, State.storedChecksum]
  rw [hcomputed, hstored]

theorem baselineFailure_eq (h : SameOperands s t) : s.baselineFailure = t.baselineFailure := by
  unfold State.baselineFailure
  rw [← h.frameFailure_eq]
  cases hf : s.frameFailure with
  | some f => rfl
  | none =>
    have := State.length_of_frameFailure_none hf
    simp only [h.config, h.half_eq (show 1 + 2 ≤ s.bufLen by omega), h.payloadLen_eq (by omega)]

theorem obsFailure_eq (h : SameOperands s t) : s.obsFailure = t.obsFailure := by
  unfold State.obsFailure
  rw [← h.frameFailure_eq]
  cases hf : s.frameFailure with
  | some f => rfl
  | none =>
    have := State.length_of_frameFailure_none hf
    simp only [h.half_eq (show 1 + 2 ≤ s.bufLen by omega), h.payloadLen_eq (by omega)]

theorem accepts_eq (h : SameOperands s t) (i : Instr) : s.accepts i = t.accepts i := by
  have hbuf : s.bufFits = t.bufFits := by rw [State.bufFits, h.config, h.bufLen, State.bufFits]
  cases i with
  | scan allowed => rw [State.accepts, State.typesFit, h.config, hbuf, State.accepts, State.typesFit]
  | _ => exact hbuf

/-! ## The same operands: the answers -/

/-- Tests agree on any two such states; values agree where no test fails, since the bytes they are read from then exist. -/
theorem answer_eq (h : SameOperands s t) (i : Instr) : s.answer i = t.answer i := by
  have validated : verdict s.frameFailure (.header s.header) = verdict t.frameFailure (.header t.header) :=
    verdict_congr h.frameFailure_eq fun hf => by
      have := State.length_of_frameFailure_none hf
      rw [h.header_eq (by omega)]
  have baseline : verdict s.baselineFailure (.baseline s.baselineRecord) =
      verdict t.baselineFailure (.baseline t.baselineRecord) :=
    verdict_congr h.baselineFailure_eq fun hf => by
      have := State.length_of_baselineFailure_none hf
      rw [h.baselineRecord_eq (by omega)]
  have header : s.obsFailure = none → s.observationHeader = t.observationHeader := fun hf => by
    have := State.length_of_obsFailure_none hf
    exact h.observationHeader_eq (by omega)
  have records : s.obsFailure = none →
      s.observationRecords s.recordCount = t.observationRecords t.recordCount := fun hf => by
    have := State.length_of_obsFailure_none hf
    rw [h.observationRecords_eq (by omega), h.recordCount_eq (by omega)]
  have message : verdict s.obsFailure (.observations s.observationMessage) =
      verdict t.obsFailure (.observations t.observationMessage) :=
    verdict_congr h.obsFailure_eq fun hf => by
      rw [State.observationMessage, header hf, records hf, State.observationMessage]
  cases i with
  | crc16 off len =>
    refine verdict_congr (h.crcFailure_eq off len) fun hf => ?_
    have : off + len ≤ s.bufLen := by simpa [State.crcFailure] using hf
    rw [h.bytesAt_eq this]
  | scan allowed =>
    exact verdict_congr (h.scanFailure_eq allowed) fun hf => by
      rw [h.header_eq (State.length_of_scanFailure_none hf)]
  | validate => exact validated
  | msgOther => exact validated
  | decbl => exact baseline
  | msgBaselineEcef => exact baseline
  | blecef => exact baseline
  | decobs => exact message
  | msgObs => exact message
  | obshdr => exact verdict_congr h.obsFailure_eq fun hf => by rw [header hf]
  | obsrec => exact verdict_congr h.obsFailure_eq fun hf => by rw [records hf]

theorem responseOf_exec_eq (h : SameOperands s t) (i : Instr) : responseOf (exec i s) = responseOf (exec i t) := by
  rw [responseOf_exec, responseOf_exec, h.accepts_eq, h.answer_eq]

/-- The same word stands at the port. -/
theorem fetch_eq (h : SameOperands s t) : s.fetch = t.fetch := by
  have hhead : s.headBytes = t.headBytes := by
    rw [State.headBytes, h.bytesAt_eq (by omega), h.bufLen, State.headBytes]
  rw [State.fetch, h.request, h.cmd, h.off, h.len, h.allowed, hhead, State.fetch]

end SameOperands

/-! ## The step -/

/-- A word stands at the port whenever a request does. -/
theorem State.fetch_ne_none {s : State} (h : s.request ≠ none) : s.fetch ≠ none := by
  unfold State.fetch
  cases hr : s.request with
  | none => exact absurd hr h
  | some port => cases port <;> exact Option.some_ne_none _

/-- A step takes its instruction from the word at the port; where that holds no frame it is the unfiltered scan, and a
reserved command gets no response. -/
theorem SameOperands.responseOf_step_eq {s t : State} (h : SameOperands s t) (hreq : s.request ≠ none) :
    responseOf (step s) = responseOf (step t) := by
  obtain ⟨p, hp⟩ := Option.ne_none_iff_exists'.mp (State.fetch_ne_none hreq)
  simp only [step, ← h.fetch_eq, hp]
  rcases decode p with (code | _) | i
  · rfl
  · simpa only [execNoFrame_eq] using h.responseOf_exec_eq (.scan [])
  · exact h.responseOf_exec_eq i

/-- Settles O46: a response is `State.answer`, which reads the buffer and the configuration alone, and a step takes its
instruction from the word at the port. -/
theorem responsesIgnoreHistory : Obligations.ResponsesIgnoreHistory :=
  ⟨fun i _ _ h => h.responseOf_exec_eq i, fun _ _ h hreq => h.responseOf_step_eq hreq⟩

end Sys2Proof.Machine
end

section
/-! PROOF. The frame of every instruction: an instruction is one run of its stages or a refusal, so a next state is the state
before it with the response delivered (20_memory.md R56). -/

namespace Sys2Proof.Machine

open Sys2Proof

/-- Every instruction is one run of stages on the state, unless it is a `SCAN` of a set beyond `MAX_TYPES`. -/
theorem exec_eq_run_or_refused (i : Instr) (s : State) :
    (∃ op, exec i s = s.run op) ∨ exec i s = .refused .allowedOverCapacity := by
  cases i with
  | crc16 off len => exact .inl ⟨_, exec_crc16 off len s⟩
  | scan allowed =>
    cases ht : s.typesFit allowed with
    | true => exact .inl ⟨_, exec_scan ht⟩
    | false => exact .inr (exec_scan_refused ht)
  | validate => exact .inl ⟨_, exec_validate s⟩
  | decbl => exact .inl ⟨_, exec_decbl s⟩
  | decobs => exact .inl ⟨_, exec_decobs s⟩
  | msgObs => exact .inl ⟨_, exec_msgObs s⟩
  | msgBaselineEcef => exact .inl ⟨_, exec_msgBaselineEcef s⟩
  | msgOther => exact .inl ⟨_, exec_msgOther s⟩
  | obshdr => exact .inl ⟨_, exec_obshdr s⟩
  | obsrec => exact .inl ⟨_, exec_obsrec s⟩
  | blecef => exact .inl ⟨_, exec_blecef s⟩

/-- All that an instruction can do when it answers a next state: it was accepted, and it delivers its answer. -/
theorem exec_next {i : Instr} {s t : State} (h : exec i s = .next t) :
    s.accepts i = true ∧ t = s.respond (s.answer i) := by
  obtain ⟨op, hrun⟩ | href := exec_eq_run_or_refused i s
  · obtain ⟨-, r, rfl, -⟩ := State.run_next (hrun.symm.trans h)
    have hr : some r = if s.accepts i = true then some (s.answer i) else none := by
      rw [← responseOf_exec, h]
      rfl
    split at hr
    · exact ⟨‹_›, congrArg s.respond (Option.some.inj hr)⟩
    · cases hr
  · cases href.symm.trans h

/-- Settles O45: a next state is the state before with the answer delivered, and delivering a response leaves the buffer, the
operands and the configuration as they are. -/
theorem onlyTheResponseChanges : Obligations.OnlyTheResponseChanges := by
  intro i s t h
  obtain ⟨-, rfl⟩ := exec_next h
  exact ⟨s.answer i, s.answeredBy_respond _⟩

end Sys2Proof.Machine
end

section
/-! PROOF. Two consequences of the wire format (30_encoding.md): what a wrong first byte does to every operation on a frame
(R82), and which lengths an Observation frame may have (R92). -/

namespace Sys2Proof.Machine

open Sys2Proof

/-! ## Within the capacities every instruction answers -/

/-- An accepted instruction completes with its answer and changes nothing else. -/
theorem answers_of_accepts {i : Instr} {s : State} (h : s.accepts i = true) : Answers i s (s.answer i) := by
  obtain ⟨t, hexec, -⟩ := next_of_responseOf ((responseOf_exec i s).trans (if_pos h))
  obtain ⟨-, rfl⟩ := exec_next hexec
  exact ⟨_, hexec, s.answeredBy_respond _⟩

/-! ## The sync test comes before every test but that of the empty buffer -/

theorem State.scanFailure_of_wrong_sync {s : State} (hlen : 1 ≤ s.bufLen) (hsync : s.byte 0 ≠ sync)
    (allowed : List MsgType) : s.scanFailure allowed = some .syncMismatch := by
  rw [State.scanFailure, if_neg (Nat.ne_of_gt hlen), if_pos hsync]

theorem State.frameFailure_of_wrong_sync {s : State} (hlen : 1 ≤ s.bufLen) (hsync : s.byte 0 ≠ sync) :
    s.frameFailure = some .syncMismatch := by
  rw [State.frameFailure, if_neg (Nat.ne_of_gt hlen), if_pos hsync]

/-! ## A decoder's tests after those of the validator -/

/-- The validator's failure passes through the Baseline decoder (60_exceptions.md R252). -/
theorem State.baselineFailure_of_frameFailure {s : State} {f : Failure} (h : s.frameFailure = some f) :
    s.baselineFailure = some f := by
  simp only [State.baselineFailure, h]

/-- The validator's failure passes through the Observation decoder (60_exceptions.md R252). -/
theorem State.obsFailure_of_frameFailure {s : State} {f : Failure} (h : s.frameFailure = some f) :
    s.obsFailure = some f := by
  simp only [State.obsFailure, h]

/-- Of a certified Observation frame only the length is left to test (44_observation_decode.md R213). -/
theorem State.obsFailure_of_certified {s : State} (hcert : s.certified = true) (htype : s.half 1 = typeObs) :
    s.obsFailure = if obsLengthLegal s.payloadLen = true then none else some .malformedLength := by
  have hiff : (s.payloadLen < 11 ∨ (s.payloadLen - 11) % 17 ≠ 0) ↔ ¬ obsLengthLegal s.payloadLen = true := by
    rw [obsLengthLegal_iff]
    omega
  simp only [State.obsFailure, (State.certified_iff s).mp hcert, htype, ne_eq, not_true, if_false]
  rw [if_congr hiff rfl rfl, ite_not]

/-! ## The wrong first byte -/

/-- Settles O20: the sync test fails in the scanner and in the validator, and both decoders pass the validator's failure
on. -/
theorem wrongFirstByteFailsScanValidatorAndDecoders : Obligations.WrongFirstByteFailsScanValidatorAndDecoders := by
  intro i s hi hfit hlen hsync
  have hframe : s.frameFailure = some .syncMismatch := State.frameFailure_of_wrong_sync hlen hsync
  suffices hs : s.accepts i = true ∧ s.answer i = .fail .syncMismatch from hs.2 ▸ answers_of_accepts hs.1
  rcases hi with ⟨allowed, rfl, htypes⟩ | rfl | rfl | rfl
  · exact ⟨by rw [State.accepts, htypes, hfit]; rfl,
      by rw [State.answer, State.scanFailure_of_wrong_sync hlen hsync, verdict_some]⟩
  · exact ⟨hfit, by rw [State.answer, hframe, verdict_some]⟩
  · exact ⟨hfit, by rw [State.answer, State.baselineFailure_of_frameFailure hframe, verdict_some]⟩
  · exact ⟨hfit, by rw [State.answer, State.obsFailure_of_frameFailure hframe, verdict_some]⟩

/-! ## The legal lengths -/

/-- The legal lengths of one byte are the `11 + 17 N` with `N` in 0..14 (R92). -/
theorem mem_legalLengths_iff {len : Nat} (h : len ≤ 255) :
    len ∈ [11, 28, 45, 62, 79, 96, 113, 130, 147, 164, 181, 198, 215, 232, 249] ↔ obsLengthLegal len = true := by
  change len ∈ (List.range 15).map (11 + 17 * ·) ↔ _
  rw [obsLengthLegal_iff, List.mem_map]
  constructor
  · rintro ⟨N, -, rfl⟩
    omega
  · exact fun e => ⟨(len - 11) / 17, List.mem_range.mpr (by omega), e.symm⟩

/-- The message of a frame has as many records as the payload length says (44_observation_decode.md R214). -/
theorem State.length_observationMessage_records (s : State) :
    s.observationMessage.records.length = (s.payloadLen - 11) / 17 := by
  rw [State.observationMessage, State.observationRecords, List.length_map, List.length_range, State.recordCount]

/-- Settles O34: the length test is the last one of a certified Observation frame, and it lets exactly the listed lengths
through. -/
theorem legalObservationLengths : Obligations.LegalObservationLengths := by
  intro s hfit hcert htype
  have hanswers : Answers .decobs s (verdict s.obsFailure (.observations s.observationMessage)) :=
    answers_of_accepts hfit
  rw [State.obsFailure_of_certified hcert htype] at hanswers
  split
  next hmem =>
    rw [if_pos ((mem_legalLengths_iff s.payloadLen_le).mp hmem)] at hanswers
    exact ⟨s.observationMessage, hanswers, s.length_observationMessage_records⟩
  next hmem =>
    rwa [if_neg (mt (mem_legalLengths_iff s.payloadLen_le).mpr hmem)] at hanswers

end Sys2Proof.Machine
end

section
/-! PROOF. A scan on which no test fails answers the whole header (41_header_scan.md R155, R156). -/

namespace Sys2Proof.Machine

open Sys2Proof

/-- An empty set lets every type through, any other set only its members (R155). -/
theorem typeAllowed_iff (allowed : List MsgType) (t : MsgType) :
    typeAllowed allowed t = true ↔ allowed = [] ∨ t ∈ allowed := by
  rw [typeAllowed, Bool.or_eq_true, List.isEmpty_iff, List.contains_iff_mem]

/-- The scanner's four tests, each passed (R151). -/
theorem State.scanFailure_eq_none {s : State} {allowed : List MsgType} (hlen : 6 ≤ s.bufLen) (hsync : s.byte 0 = sync)
    (htype : allowed = [] ∨ s.half 1 ∈ allowed) : s.scanFailure allowed = none := by
  have hallowed : typeAllowed allowed (s.half 1) = true := (typeAllowed_iff allowed _).mpr htype
  rw [State.scanFailure, if_neg (by omega), if_neg (not_not.mpr hsync), if_neg (by omega), if_pos hallowed]

/-- A scan within the capacities answers the header when no test fails. -/
theorem answers_scan_header {s : State} {allowed : List MsgType} (hfit : s.bufFits = true)
    (htypes : s.typesFit allowed = true) (hpass : s.scanFailure allowed = none) :
    Answers (.scan allowed) s (.ok (.header s.header)) := by
  have haccepts : s.accepts (.scan allowed) = true := by rw [State.accepts, htypes, hfit]; rfl
  have hanswer : s.answer (.scan allowed) = .ok (.header s.header) := by rw [State.answer, hpass, verdict_none]
  exact hanswer ▸ answers_of_accepts haccepts

/-- Settles O19: the premises are the scanner's tests, so none fails and the answer is the header of the buffer. -/
theorem scanReturnsTheWholeHeader : Obligations.ScanReturnsTheWholeHeader := by
  intro allowed s hfit htypes hlen hsync htype
  have hpass : s.scanFailure allowed = none := State.scanFailure_eq_none hlen hsync htype
  have hanswers := answers_scan_header hfit htypes hpass
  rwa [State.header, hsync] at hanswers

end Sys2Proof.Machine
end

section
/-! PROOF. The table-driven checksum is the bit-by-bit one (40_checksum.md R131, R136): eight turns of the generating rule are
linear over XOR, they shift the low byte of the accumulator out unchanged, and they turn its high byte into the table entry. -/

namespace Sys2Proof.Machine

open Sys2Proof

/-! ## Turns of the generating rule are linear over XOR -/

/-- The bits shifted out add, and so do the polynomials subtracted for them. -/
theorem crcShift_xor (a b : Word16) : crcShift (a ^^^ b) = crcShift a ^^^ crcShift b := by
  unfold crcShift
  rw [BitVec.getLsbD_xor, BitVec.shiftLeft_xor_distrib]
  cases a.getLsbD 15 <;> cases b.getLsbD 15 <;>
    simp only [Bool.xor_false, Bool.xor_true, Bool.not_false, Bool.not_true, Bool.false_eq_true, if_true, if_false]
  case false.true => ac_rfl
  case true.false => ac_rfl
  case true.true =>
    calc a <<< 1 ^^^ b <<< 1
        = a <<< 1 ^^^ b <<< 1 ^^^ (crcPoly ^^^ crcPoly) := by rw [BitVec.xor_self, BitVec.xor_zero]
      _ = a <<< 1 ^^^ crcPoly ^^^ (b <<< 1 ^^^ crcPoly) := by ac_rfl

theorem crcShift8_xor (a b : Word16) : crcShift8 (a ^^^ b) = crcShift8 a ^^^ crcShift8 b :=
  List.foldl_hom₂ (List.range 8) (· ^^^ ·) _ _ _ a b fun a b _ => (crcShift_xor a b).symm

/-! ## The low byte -/

/-- A turn that shifts no one out subtracts no polynomial (R131). -/
theorem crcShift_of_top_clear {r : Word16} (h : r.getLsbD 15 = false) : crcShift r = r <<< 1 := by
  rw [crcShift, h, if_neg Bool.false_ne_true]

/-- Up to eight turns on a byte only shift it: no bit of it gets past bit 15 before the ninth. -/
theorem foldl_crcShift_byte (c : Byte) {k : Nat} (hk : k ≤ 8) :
    (List.range k).foldl (fun r _ => crcShift r) (c.setWidth 16) = c.setWidth 16 <<< k := by
  induction k with
  | zero => exact (BitVec.shiftLeft_zero _).symm
  | succ k ih =>
    have htop : (c.setWidth 16 <<< k).getLsbD 15 = false := by
      rw [BitVec.getLsbD_shiftLeft, BitVec.getLsbD_setWidth, BitVec.getLsbD_of_ge c (15 - k) (by omega), Bool.and_false,
        Bool.and_false]
    rw [List.range_succ, List.foldl_append, ih (by omega), List.foldl_cons, List.foldl_nil, crcShift_of_top_clear htop,
      ← BitVec.shiftLeft_add]

theorem crcShift8_byte (c : Byte) : crcShift8 (c.setWidth 16) = c.setWidth 16 <<< 8 :=
  foldl_crcShift_byte c le_rfl

/-! ## The high byte -/

/-- The listed ROM is the generated one (R131): its 256 constants, each compared. -/
theorem crcTable_eq_crcGenerated : ∀ i : Byte, crcTable i = crcGenerated i := by decide +kernel

/-- The accumulator with the data byte added to its high byte is the index in the high byte over the low byte as it was
(R137). -/
theorem xor_dataByte_eq (acc : Word16) (b : Byte) :
    acc ^^^ (b.setWidth 16 <<< 8) = ((crcIndex acc b).setWidth 16 <<< 8) ^^^ (acc.setWidth 8).setWidth 16 := by
  ext i hi
  by_cases h8 : i < 8
  · simp [crcIndex, h8, BitVec.getLsbD_eq_getElem hi]
  · simp [crcIndex, h8, show i - 8 < 8 by omega, show 8 + (i - 8) = i by omega, hi]

/-- Shifting the accumulator by a byte keeps its low byte alone. -/
theorem lowByte_shiftLeft (acc : Word16) : (acc.setWidth 8).setWidth 16 <<< 8 = acc <<< 8 := by
  ext i hi
  by_cases h8 : i < 8
  · simp [h8]
  · simp [h8, show i - 8 < 8 by omega, BitVec.getLsbD_eq_getElem (show i - 8 < 16 by omega)]

/-! ## One data byte, and all of them -/

theorem crcStep_eq_crcBitStep (acc : Word16) (b : Byte) : crcStep acc b = crcBitStep acc b := by
  symm
  calc crcBitStep acc b
      = crcShift8 (((crcIndex acc b).setWidth 16 <<< 8) ^^^ (acc.setWidth 8).setWidth 16) :=
        congrArg crcShift8 (xor_dataByte_eq acc b)
    _ = crcGenerated (crcIndex acc b) ^^^ (acc.setWidth 8).setWidth 16 <<< 8 := by
        rw [crcShift8_xor, crcShift8_byte, crcGenerated]
    _ = acc <<< 8 ^^^ crcTable (crcIndex acc b) := by
        rw [lowByte_shiftLeft, ← crcTable_eq_crcGenerated, BitVec.xor_comm]

/-- The engine's checksum is the polynomial one, taken bit by bit (R136). -/
theorem crcOf_eq_crcBitwise (bytes : List Byte) : crcOf bytes = crcBitwise bytes := by
  rw [crcOf, crcBitwise, funext₂ crcStep_eq_crcBitStep, crcInit]

end Sys2Proof.Machine
end

section
/-! PROOF. The answer of `VALIDATE`, test by test (42_frame_validate.md R171). -/

namespace Sys2Proof.Machine

open Sys2Proof

/-- The verdict on a chain of tests is the chain of their verdicts. -/
theorem verdict_ite (c : Prop) [Decidable c] (f g : Option Failure) (v : Value) :
    verdict (if c then f else g) v = if c then verdict f v else verdict g v :=
  apply_ite (verdict · v) c f g

/-- The validator's own checksum, by the bit-by-bit rule (R174). -/
theorem State.computedChecksum_eq_crcBitwise (s : State) :
    s.computedChecksum = crcBitwise (s.bytesAt 1 (s.payloadLen + 5)) :=
  crcOf_eq_crcBitwise _

/-- The validator's tests in their order, with the length summed part by part (R173) and the checksum taken bit by bit. -/
theorem State.verdict_frameFailure_eq (s : State) (v : Value) :
    verdict s.frameFailure v =
      if s.bufLen = 0 then .fail .bufferTooShort
      else if s.byte 0 ≠ sync then .fail .syncMismatch
      else if s.bufLen < 6 then .fail .bufferTooShort
      else if s.bufLen < 6 + s.payloadLen + 2 then .fail .bufferTooShort
      else if crcBitwise (s.bytesAt 1 (s.payloadLen + 5)) ≠ s.storedChecksum then .fail .checksumMismatch
      else .ok v := by
  have hlength : 8 + s.payloadLen = 6 + s.payloadLen + 2 := by omega
  rw [State.frameFailure, hlength, s.computedChecksum_eq_crcBitwise]
  simp only [verdict_ite, verdict_some, verdict_none, ne_eq, ite_not]

/-- Settles O22: `VALIDATE` answers the verdict of the validator's tests on the header. -/
theorem validateEndsInItsFirstFailingStep : Obligations.ValidateEndsInItsFirstFailingStep := by
  intro s hfit
  have hanswers : Answers .validate s (verdict s.frameFailure (.header s.header)) := answers_of_accepts hfit
  rwa [s.verdict_frameFailure_eq] at hanswers

end Sys2Proof.Machine
end

section
/-! PROOF. The decoder and the encoder (30_encoding.md R110, R112): `ALLOWED` as a set in its one canonical form, and
`decode` against `encode`. -/

namespace Sys2Proof

/-! ## ALLOWED as a set -/

/-- The canonical form is the list in rising order with no repetition. -/
theorem strictlyRising_iff_pairwise (ts : List MsgType) : strictlyRising ts = true ↔ ts.Pairwise (· < ·) := by
  rw [← List.isChain_iff_pairwise]
  induction ts using strictlyRising.induct with
  | case1 => simp [strictlyRising]
  | case2 => simp [strictlyRising]
  | case3 a b rest ih =>
    rw [strictlyRising, Bool.and_eq_true, decide_eq_true_eq, ih, List.isChain_cons_cons, BitVec.lt_def]

theorem mem_insertType (t u : MsgType) (ts : List MsgType) : u ∈ insertType t ts ↔ u = t ∨ u ∈ ts := by
  induction ts with
  | nil => simp [insertType]
  | cons v ts ih =>
    rw [insertType]
    split_ifs with heq
    · subst heq
      simp
    · simp
    · simp only [List.mem_cons, ih]
      tauto

theorem pairwise_insertType (t : MsgType) {ts : List MsgType} (h : ts.Pairwise (· < ·)) :
    (insertType t ts).Pairwise (· < ·) := by
  induction ts with
  | nil => exact List.pairwise_singleton ..
  | cons v ts ih =>
    obtain ⟨hv, hts⟩ := List.pairwise_cons.mp h
    rw [insertType]
    split_ifs with heq hlt
    · exact h
    · refine List.pairwise_cons.mpr ⟨fun u hu => ?_, h⟩
      rcases List.mem_cons.mp hu with rfl | hu
      · exact hlt
      · exact BitVec.lt_trans hlt (hv u hu)
    · refine List.pairwise_cons.mpr ⟨fun u hu => ?_, ih hts⟩
      rcases (mem_insertType t u ts).mp hu with rfl | hu
      · have hne : u.toNat ≠ v.toNat := mt BitVec.eq_of_toNat_eq heq
        exact BitVec.lt_def.mpr (by omega)
      · exact hv u hu

/-- The canonical form keeps the members. -/
theorem mem_typeSet (t : MsgType) (ts : List MsgType) : t ∈ typeSet ts ↔ t ∈ ts := by
  induction ts with
  | nil => exact Iff.rfl
  | cons u ts ih =>
    change t ∈ insertType u (typeSet ts) ↔ _
    rw [mem_insertType, ih, List.mem_cons]

theorem pairwise_typeSet (ts : List MsgType) : (typeSet ts).Pairwise (· < ·) := by
  induction ts with
  | nil => exact List.Pairwise.nil
  | cons u ts ih => exact pairwise_insertType u ih

/-- Order and repetition have no meaning (10_state.md R22): the members decide the canonical form. -/
theorem typeSet_congr {a b : List MsgType} (h : ∀ t, t ∈ a ↔ t ∈ b) : typeSet a = typeSet b :=
  (pairwise_typeSet a).eq_of_mem_iff (pairwise_typeSet b) fun t => by rw [mem_typeSet, mem_typeSet, h]

/-- A list in canonical form is its own. -/
theorem typeSet_of_strictlyRising {ts : List MsgType} (h : strictlyRising ts = true) : typeSet ts = ts :=
  (pairwise_typeSet ts).eq_of_mem_iff ((strictlyRising_iff_pairwise ts).mp h) fun t => mem_typeSet t ts

/-! ## Decoding -/

/-- Settles O1: an encoding selects its own row, and the set of a well-formed `SCAN` is its own canonical form. -/
theorem decodeEncodeRoundTrip : Obligations.DecodeEncodeRoundTrip := by
  intro i hwf
  cases i with
  | scan allowed =>
    have hset : typeSet allowed = allowed := typeSet_of_strictlyRising hwf
    calc decode (encode (.scan allowed)) = .ok (.scan (typeSet allowed)) := rfl
      _ = .ok (.scan allowed) := by rw [hset]
  | _ => rfl

/-- A command decodes to a well-formed instruction: `SCAN` gets the canonical form, the other codes carry no set. -/
theorem wellFormed_of_decodeCommand {code : BitVec 3} {p : PortWord} {i : Instr} (h : decodeCommand code p = .ok i) :
    i.wellFormed = true := by
  unfold decodeCommand at h
  split at h
  case h_2 =>
    obtain rfl := Except.ok.inj h
    exact (strictlyRising_iff_pairwise _).mpr (pairwise_typeSet p.allowed)
  case h_6 => cases h
  all_goals
    obtain rfl := Except.ok.inj h
    rfl

/-- No frame row carries a set. -/
theorem wellFormed_of_decodeFrame {bytes : List Byte} {i : Instr} (h : decodeFrame bytes = .ok i) :
    i.wellFormed = true := by
  have hrows : ∀ r ∈ frameRows, r.instr.wellFormed = true := by decide
  unfold decodeFrame at h
  split at h
  next r hfind =>
    obtain rfl := Except.ok.inj h
    exact hrows r (List.mem_of_find?_eq_some hfind)
  next => cases h

/-- Settles O2: port by port. -/
theorem decodedInstructionsAreWellFormed : Obligations.DecodedInstructionsAreWellFormed := by
  intro p i h
  unfold decode at h
  split at h
  case h_1 => exact wellFormed_of_decodeCommand h
  case h_2 => exact wellFormed_of_decodeFrame h
  all_goals
    obtain rfl := Except.ok.inj h
    rfl

/-- Settles O3: the decoder looks at `ALLOWED` through its canonical form only. -/
theorem allowedOperandIsASet : Obligations.AllowedOperandIsASet := by
  intro p a b h
  have hset : typeSet a = typeSet b := typeSet_congr h
  simp only [decode, decodeCommand, hset]

/-- Settles O4: each word, evaluated. -/
theorem tableWordsDecodeToTheirRows : Obligations.TableWordsDecodeToTheirRows := by
  unfold Obligations.TableWordsDecodeToTheirRows
  decide

/-! ## Which row a command or a frame selects -/

/-- The codes below 5 name operations (R110). -/
theorem decodeCommand_of_lt {code : BitVec 3} (h : code.toNat < 5) (p : PortWord) :
    ∃ i, decodeCommand code p = .ok i := by
  unfold decodeCommand
  interval_cases code.toNat
  all_goals exact ⟨_, rfl⟩

/-- The codes from 5 on are reserved (R110). -/
theorem decodeCommand_of_reserved {code : BitVec 3} (h : 5 ≤ code.toNat) (p : PortWord) :
    decodeCommand code p = .error (.reservedCommand code) := by
  unfold decodeCommand
  split
  case h_6 => rfl
  all_goals omega

/-- A command's code is the low three bits of the byte that carries it. -/
theorem commandCode_setWidth : ∀ code : BitVec 3, commandCode [code.setWidth 8] = code := by decide

end Sys2Proof
end

section
/-! PROOF. What an instruction and a step can do at all: answer, or be refused by name (93_implementation_defined.md U6 to U8);
never read outside the buffer (20_memory.md R59). -/

namespace Sys2Proof.Machine

open Sys2Proof

/-! ## exec -/

theorem exec_of_accepts {i : Instr} {s : State} (h : s.accepts i = true) :
    exec i s = .next (s.respond (s.answer i)) := by
  obtain ⟨t, hexec, -⟩ := answers_of_accepts h
  obtain ⟨-, rfl⟩ := exec_next hexec
  exact hexec

/-- Every instruction is one run, which tests the capacity first; `SCAN` tests that of its set before. -/
theorem exec_of_bufFits_false {i : Instr} {s : State} (hbuf : s.bufFits = false)
    (htypes : ∀ allowed, i = .scan allowed → s.typesFit allowed = true) : exec i s = .refused .bufferOverCapacity := by
  cases i with
  | scan allowed => exact (exec_scan (htypes allowed rfl)).trans (State.run_refused hbuf)
  | _ => exact if_neg (Bool.eq_false_iff.mp hbuf)

/-- Within both capacities an instruction is accepted. -/
theorem State.accepts_of_fits {i : Instr} {s : State} (hbuf : s.bufFits = true)
    (htypes : ∀ allowed, i = .scan allowed → s.typesFit allowed = true) : s.accepts i = true := by
  cases i with
  | scan allowed => rw [State.accepts, htypes allowed rfl, hbuf]; rfl
  | _ => exact hbuf

/-- Only `SCAN` asks for more than the capacity of the buffer. -/
theorem State.accepts_of_bufFits {i : Instr} {s : State} (hbuf : s.bufFits = true)
    (hscan : ∀ allowed, i ≠ .scan allowed) : s.accepts i = true :=
  State.accepts_of_fits hbuf fun allowed h => absurd h (hscan allowed)

/-- All that an instruction can do: deliver its answer, or be refused for a capacity. -/
theorem exec_cases (i : Instr) (s : State) :
    (s.accepts i = true ∧ exec i s = .next (s.respond (s.answer i))) ∨
    (s.bufFits = false ∧ exec i s = .refused .bufferOverCapacity) ∨
    (∃ allowed, i = .scan allowed ∧ s.typesFit allowed = false ∧ exec i s = .refused .allowedOverCapacity) := by
  by_cases htypes : ∀ allowed, i = .scan allowed → s.typesFit allowed = true
  · cases hbuf : s.bufFits with
    | true =>
      have haccepts := State.accepts_of_fits hbuf htypes
      exact .inl ⟨haccepts, exec_of_accepts haccepts⟩
    | false => exact .inr (.inl ⟨rfl, exec_of_bufFits_false hbuf htypes⟩)
  · push Not at htypes
    obtain ⟨allowed, rfl, hfit⟩ := htypes
    have hfit : s.typesFit allowed = false := Bool.eq_false_iff.mpr hfit
    exact .inr (.inr ⟨allowed, rfl, hfit, exec_scan_refused hfit⟩)

theorem exec_ne_fault (i : Instr) (s : State) (r : Fault) : exec i s ≠ .fault r := by
  rcases exec_cases i s with ⟨-, h⟩ | ⟨-, h⟩ | ⟨_, -, -, h⟩ <;> simp [h]

/-- Settles O42: the two refusals of `exec_cases`. -/
theorem onlyCapacitiesAreRefused : Obligations.OnlyCapacitiesAreRefused := by
  intro i s r h
  rcases exec_cases i s with ⟨-, hexec⟩ | ⟨hbuf, hexec⟩ | ⟨allowed, rfl, hfit, hexec⟩
  · cases hexec.symm.trans h
  · obtain rfl := Host.Outcome.refused.inj (hexec.symm.trans h)
    exact .inl ⟨rfl, hbuf⟩
  · obtain rfl := Host.Outcome.refused.inj (hexec.symm.trans h)
    exact .inr ⟨allowed, rfl, rfl, hfit⟩

/-- Settles O43: a run is refused for its buffer, and a `SCAN` for its set before it runs. -/
theorem overCapacityIsRefused : Obligations.OverCapacityIsRefused :=
  ⟨fun _ _ hbuf htypes => exec_of_bufFits_false hbuf htypes, fun _ _ hfit => exec_scan_refused hfit⟩

/-- Settles O44: both capacities of this hardware are unbounded, so every instruction is accepted. -/
theorem everyInstructionAnswersOnThisHardware : Obligations.EveryInstructionAnswersOnThisHardware := by
  intro i s hconfig
  have hbuf : s.bufFits = true := by rw [State.bufFits, hconfig]; rfl
  have htypes : ∀ allowed, s.typesFit allowed = true := fun allowed => by rw [State.typesFit, hconfig]; rfl
  exact ⟨s.answer i, answers_of_accepts (State.accepts_of_fits hbuf fun allowed _ => htypes allowed)⟩

/-- A response leaves the operands of the next answer as they are. -/
theorem State.answer_respond (s : State) (r : Response) (i : Instr) : (s.respond r).answer i = s.answer i := by
  cases i <;> rfl

theorem State.accepts_respond (s : State) (r : Response) (i : Instr) : (s.respond r).accepts i = s.accepts i := by
  cases i <;> rfl

/-- Settles O48: the second answer reads the same buffer under the same configuration. -/
theorem repeatedOperationsRepeatTheirResponse : Obligations.RepeatedOperationsRepeatTheirResponse := by
  intro i s t h
  obtain ⟨haccepts, rfl⟩ := exec_next h
  rw [responseOf_exec, State.accepts_respond, State.answer_respond, if_pos haccepts, State.respond_rsp]

/-! ## step -/

theorem step_of_decode {s : State} {p : PortWord} {i : Instr} (hfetch : s.fetch = some p) (hdecode : decode p = .ok i) :
    step s = exec i s := by
  simp only [step, hfetch, hdecode]

theorem step_of_reserved {s : State} {p : PortWord} {code : BitVec 3} (hfetch : s.fetch = some p)
    (hdecode : decode p = .error (.reservedCommand code)) : step s = .refused (.reservedCommand code) := by
  simp only [step, hfetch, hdecode]

/-- A buffer that holds no frame is scanned with no filter (R82). -/
theorem step_of_noFrame {s : State} {p : PortWord} (hfetch : s.fetch = some p) (hdecode : decode p = .error .noFrame) :
    step s = exec (.scan []) s := by
  simp only [step, hfetch, hdecode, execNoFrame_eq]

theorem step_idle {s : State} (h : s.request = none) : step s = .next s := by
  simp only [step, State.fetch, h]

/-- All that a step can do: nothing, one instruction, or refuse a reserved command. -/
theorem step_cases (s : State) :
    step s = .next s ∨ (∃ i, step s = exec i s) ∨ (∃ code, step s = .refused (.reservedCommand code)) := by
  cases hfetch : s.fetch with
  | none => exact .inl (by simp only [step, hfetch])
  | some p =>
    cases hdecode : decode p with
    | ok i => exact .inr (.inl ⟨i, step_of_decode hfetch hdecode⟩)
    | error e =>
      cases e with
      | reservedCommand code => exact .inr (.inr ⟨code, step_of_reserved hfetch hdecode⟩)
      | noFrame => exact .inr (.inl ⟨.scan [], step_of_noFrame hfetch hdecode⟩)

/-- All that a step can do when it answers a next state: nothing, or deliver the answer of an instruction. -/
theorem step_next {s t : State} (h : step s = .next t) : t = s ∨ ∃ i, t = s.respond (s.answer i) := by
  rcases step_cases s with hidle | ⟨i, hexec⟩ | ⟨code, href⟩
  · exact .inl (Host.Outcome.next.inj (h.symm.trans hidle))
  · exact .inr ⟨i, (exec_next (hexec.symm.trans h)).2⟩
  · cases h.symm.trans href

/-- Settles O41: no instruction faults, and a step is idle, one instruction or a refusal. -/
theorem noReadLeavesTheBuffer : Obligations.NoReadLeavesTheBuffer := by
  refine ⟨exec_ne_fault, fun s r => ?_⟩
  rcases step_cases s with h | ⟨i, h⟩ | ⟨code, h⟩
  · simp [h]
  · exact h ▸ exec_ne_fault i s r
  · simp [h]

/-- Settles O5: the equations of `step` at a decoded word and at an idle core. -/
theorem stepRunsTheDecodedInstruction : Obligations.StepRunsTheDecodedInstruction :=
  ⟨fun _ _ _ hfetch hdecode => step_of_decode hfetch hdecode, fun _ h => step_idle h⟩

/-! ## Commands at the port -/

/-- The word of a command request (R110). -/
def State.commandWord (s : State) : PortWord :=
  { port := .command, bytes := [s.cmd.setWidth 8], off := s.off, len := s.len, allowed := s.allowed }

theorem State.fetch_command {s : State} (h : s.request = some .command) : s.fetch = some s.commandWord := by
  simp only [State.fetch, h, State.commandWord]

theorem State.decode_commandWord (s : State) : decode s.commandWord = decodeCommand s.cmd s.commandWord := by
  simp only [decode, State.commandWord, commandCode_setWidth]

/-- A command runs what its code decodes to. -/
theorem step_of_decodeCommand {s : State} {i : Instr} (h : s.request = some .command)
    (hdecode : decodeCommand s.cmd s.commandWord = .ok i) : step s = exec i s :=
  step_of_decode (State.fetch_command h) (s.decode_commandWord.trans hdecode)

/-- Settles O6: the five codes, each decoded. -/
theorem commandCodesSelectTheOperations : Obligations.CommandCodesSelectTheOperations := by
  intro s h
  refine ⟨fun hc => ?_, fun hc => ?_, fun hc => ?_, fun hc => ?_, fun hc => ?_⟩ <;>
    exact step_of_decodeCommand h (by rw [hc]; rfl)

/-- Settles O7: a code from 5 on decodes to its refusal; a lower one runs an instruction, which only a capacity refuses. -/
theorem reservedCommandsAreRefusedByName : Obligations.ReservedCommandsAreRefusedByName := by
  intro s h
  constructor
  · intro href
    by_contra hlt
    obtain ⟨i, hi⟩ := decodeCommand_of_lt (Nat.lt_of_not_le hlt) s.commandWord
    rw [step_of_decodeCommand h hi] at href
    rcases onlyCapacitiesAreRefused i s _ href with ⟨hr, -⟩ | ⟨_, -, hr, -⟩ <;> cases hr
  · intro hle
    exact step_of_reserved (State.fetch_command h)
      (s.decode_commandWord.trans (decodeCommand_of_reserved hle s.commandWord))

/-! ## Programs -/

theorem step_keeps_config {s t : State} (h : step s = .next t) : t.config = s.config := by
  rcases step_next h with rfl | ⟨i, rfl⟩ <;> rfl

/-- What the host presents overwrites everything a response depends on but the configuration (70_reset_and_hazards.md R285). -/
theorem sameOperands_present {s t : State} (h : s.config = t.config) (r : Request) :
    SameOperands (s.present r) (t.present r) :=
  ⟨rfl, rfl, rfl, rfl, rfl, rfl, fun _ _ => rfl, h⟩

/-- Settles O47, by induction on the requests: each response is that of its own request from reset, and no step changes the
configuration under which the next request runs. -/
theorem programResponsesAreIndependent : Obligations.ProgramResponsesAreIndependent := by
  intro s rs
  induction rs generalizing s with
  | nil => rfl
  | cons r rs ih =>
    have hresponse : responseOf (step (s.present r)) =
        responseOf (step ({ State.reset with config := s.config }.present r)) :=
      (sameOperands_present (s := s) (t := { State.reset with config := s.config }) rfl r).responseOf_step_eq
        (Option.some_ne_none _)
    rw [List.map_cons, ← hresponse, runProgram]
    cases hstep : step (s.present r) with
    | next t =>
      have hconfig : t.config = s.config := step_keeps_config (s := s.present r) hstep
      rw [← hconfig]
      exact congrArg (t.rsp :: ·) (ih t)
    | fault => exact congrArg (none :: ·) (ih s)
    | refused => exact congrArg (none :: ·) (ih s)

end Sys2Proof.Machine
end

section
/-! PROOF. Field assembly: little-endian reads (20_memory.md R52), two's complement (30_encoding.md R101), the flags byte
(R97) and the nibble pair (R94), each with the inverse that writes the field back. -/

namespace Sys2Proof.Machine

open Sys2Proof

/-! ## Little-endian words -/

/-- A byte above bit `k` of a value below `2 ^ k` adds. -/
theorem toNat_or_shiftLeft {n k : Nat} (x : BitVec n) (b : Byte) (hx : x.toNat < 2 ^ k) (hk : k + 8 ≤ n) :
    (x ||| b.setWidth n <<< k).toNat = x.toNat + 2 ^ k * b.toNat := by
  have hpow : 2 ^ k * 2 ^ 8 ≤ 2 ^ n := by
    rw [← pow_add]
    exact Nat.pow_le_pow_right (by decide) hk
  have hlow : b.toNat < 2 ^ n := lt_of_lt_of_le b.isLt (Nat.pow_le_pow_right (by decide) (by omega))
  have hshift : 2 ^ k * b.toNat < 2 ^ n := lt_of_lt_of_le (Nat.mul_lt_mul_of_pos_left b.isLt (by positivity)) hpow
  rw [BitVec.toNat_or, BitVec.toNat_shiftLeft, BitVec.toNat_setWidth, Nat.mod_eq_of_lt hlow, Nat.shiftLeft_eq,
    Nat.mul_comm b.toNat, Nat.mod_eq_of_lt hshift, Nat.or_comm, ← Nat.two_pow_add_eq_or_of_lt hx, Nat.add_comm]

theorem toNat_word16 (b0 b1 : Byte) : (word16 b0 b1).toNat = b0.toNat + 256 * b1.toNat := by
  have h0 : (b0.setWidth 16).toNat = b0.toNat := BitVec.toNat_setWidth_of_le (by decide)
  have h1 := toNat_or_shiftLeft (k := 8) (b0.setWidth 16) b1 (by omega) (by decide)
  rw [word16]
  omega

theorem toNat_word32 (b0 b1 b2 b3 : Byte) :
    (word32 b0 b1 b2 b3).toNat = b0.toNat + 256 * b1.toNat + 65536 * b2.toNat + 16777216 * b3.toNat := by
  have h0 : (b0.setWidth 32).toNat = b0.toNat := BitVec.toNat_setWidth_of_le (by decide)
  have h1 := toNat_or_shiftLeft (k := 8) (b0.setWidth 32) b1 (by omega) (by decide)
  have h2 := toNat_or_shiftLeft (k := 16) (b0.setWidth 32 ||| b1.setWidth 32 <<< 8) b2 (by omega) (by decide)
  have h3 := toNat_or_shiftLeft (k := 24) (b0.setWidth 32 ||| b1.setWidth 32 <<< 8 ||| b2.setWidth 32 <<< 16) b3
    (by omega) (by decide)
  rw [word32]
  omega

/-- Settles O39: a typed read is `word16` or `word32` of the bytes from its index on. -/
theorem fieldsAreLittleEndian : Obligations.FieldsAreLittleEndian :=
  fun _ _ => ⟨toNat_word16 .., toNat_word32 ..⟩

theorem word16_eq_iff (b0 b1 : Byte) (v : Word16) :
    word16 b0 b1 = v ↔ b0 = v.extractLsb' 0 8 ∧ b1 = v.extractLsb' 8 8 := by
  have h := toNat_word16 b0 b1
  simp only [← BitVec.toNat_inj, h, BitVec.extractLsb'_toNat, Nat.shiftRight_eq_div_pow]
  omega

theorem word32_eq_iff (b0 b1 b2 b3 : Byte) (v : Word32) :
    word32 b0 b1 b2 b3 = v ↔
      b0 = v.extractLsb' 0 8 ∧ b1 = v.extractLsb' 8 8 ∧ b2 = v.extractLsb' 16 8 ∧ b3 = v.extractLsb' 24 8 := by
  have h := toNat_word32 b0 b1 b2 b3
  simp only [← BitVec.toNat_inj, h, BitVec.extractLsb'_toNat, Nat.shiftRight_eq_div_pow]
  omega

/-! ## Two's complement -/

theorem signed_eq_toInt {n : Nat} (hn : 0 < n) (v : BitVec n) : signed v = v.toInt := by
  obtain ⟨m, rfl⟩ := Nat.exists_eq_add_of_lt hn
  have hpow : (2 : Nat) ^ (0 + m + 1) = 2 * 2 ^ (0 + m + 1 - 1) := by
    rw [Nat.add_sub_cancel, pow_succ, Nat.mul_comm]
  have hcond : 2 * v.toNat < 2 ^ (0 + m + 1) ↔ v.toNat < 2 ^ (0 + m + 1 - 1) := by omega
  rw [signed, BitVec.toInt_eq_toNat_cond, if_congr hcond rfl rfl]
  push_cast
  rfl

/-- Settles O40: the library's `toInt` and its bounds. -/
theorem signedFieldsAreTwosComplement : Obligations.SignedFieldsAreTwosComplement := by
  intro n v hn
  rw [signed_eq_toInt hn]
  exact ⟨rfl, v.le_toInt, v.toInt_lt⟩

/-- A decoded signed field is in its range. -/
theorem inRange_signed {n : Nat} (hn : 0 < n) (v : BitVec n) : inRange n (signed v) = true := by
  obtain ⟨-, hlo, hhi⟩ := signedFieldsAreTwosComplement n v hn
  rw [inRange, decide_eq_true hlo, decide_eq_true hhi, Bool.and_self]

/-- A value in range and its pattern determine each other. -/
theorem eq_ofInt_iff {n : Nat} (hn : 0 < n) {i : Int} (hi : inRange n i = true) (v : BitVec n) :
    v = BitVec.ofInt n i ↔ signed v = i := by
  simp only [inRange, Bool.and_eq_true, decide_eq_true_eq] at hi
  rw [signed_eq_toInt hn, ← BitVec.toInt_inj, BitVec.toInt_ofInt_eq_self hn hi.1 hi.2]

/-! ## The flags byte -/

/-- The masks and shifts of R97 are the bits. -/
theorem unpackFlags_bits : ∀ f : Byte,
    (unpackFlags f).pseudorangeValid = f.getLsbD 0 ∧ (unpackFlags f).carrierPhaseValid = f.getLsbD 1 ∧
    (unpackFlags f).halfCycleResolved = f.getLsbD 2 ∧ (unpackFlags f).dopplerValid = f.getLsbD 3 ∧
    (unpackFlags f).reserved = f.extractLsb' 4 3 ∧ (unpackFlags f).raimExcl = f.getLsbD 7 := by decide +kernel

theorem packFlags_unpackFlags : ∀ f : Byte, packFlags (unpackFlags f) = f := by decide +kernel

theorem unpackFlags_packFlags (g : ObservationFlags) : unpackFlags (packFlags g) = g := by
  obtain ⟨pr, cp, hc, dop, reserved, raim⟩ := g
  revert pr cp hc dop reserved raim
  decide +kernel

/-- Settles O37: the bits, and the two inverses. -/
theorem flagsByteSplitsByBits : Obligations.FlagsByteSplitsByBits := by
  refine ⟨fun f => ?_, unpackFlags_packFlags⟩
  obtain ⟨hpr, hcp, hhc, hdop, hres, hraim⟩ := unpackFlags_bits f
  exact ⟨hpr, hcp, hhc, hdop, hres, hraim, packFlags_unpackFlags f⟩

theorem eq_packFlags_iff (f : Byte) (g : ObservationFlags) : f = packFlags g ↔ unpackFlags f = g :=
  ⟨fun h => h ▸ unpackFlags_packFlags g, fun h => h ▸ (packFlags_unpackFlags f).symm⟩

/-! ## The nibble pair -/

/-- Settles O38: mask and shift on each of the 256 bytes. -/
theorem nibblePairSplits : Obligations.NibblePairSplits := by
  unfold Obligations.NibblePairSplits
  decide +kernel

theorem lowNibble_append : ∀ h l : BitVec 4, lowNibble (h ++ l) = l := by decide +kernel

theorem highNibble_append : ∀ h l : BitVec 4, highNibble (h ++ l) = h := by decide +kernel

theorem highNibble_append_lowNibble : ∀ nib : Byte, (highNibble nib ++ lowNibble nib : Byte) = nib := by decide +kernel

theorem eq_append_nibbles_iff (nib : Byte) (h l : BitVec 4) : nib = h ++ l ↔ highNibble nib = h ∧ lowNibble nib = l := by
  constructor
  · rintro rfl
    exact ⟨highNibble_append h l, lowNibble_append h l⟩
  · rintro ⟨rfl, rfl⟩
    exact (highNibble_append_lowNibble nib).symm

/-- The byte and its two fields determine each other, in either order of the nibbles. -/
theorem eq_packNibbles_iff (indexLow : Bool) (nib : Byte) (index total : BitVec 4) :
    nib = packNibbles indexLow index total ↔
      fragmentIndex indexLow nib = index ∧ fragmentTotal indexLow nib = total := by
  cases indexLow with
  | true => exact (eq_append_nibbles_iff nib total index).trans and_comm
  | false => exact eq_append_nibbles_iff nib index total

end Sys2Proof.Machine
end

section
/-! PROOF. The answer of each operation, test by test (60_exceptions.md R242, R246): first failures, values and their types. -/

namespace Sys2Proof.Machine

open Sys2Proof

/-! ## Verdicts -/

theorem verdict_eq_fail_iff {o : Option Failure} {v : Value} {f : Failure} : verdict o v = .fail f ↔ o = some f := by
  cases o <;> simp

theorem verdict_eq_ok_iff {o : Option Failure} {v u : Value} : verdict o v = .ok u ↔ o = none ∧ u = v := by
  cases o <;> simp [eq_comm]

/-- The response that stands after an instruction is its answer. -/
theorem answer_of_exec_next {i : Instr} {s t : State} {r : Response} (h : exec i s = .next t) (hrsp : t.rsp = some r) :
    s.answer i = r := by
  obtain ⟨-, rfl⟩ := exec_next h
  exact Option.some.inj hrsp

/-! ## Which failures the tests can end in -/

/-- The scanner's failures (R151): its type test needs a filter that leaves the type out. -/
theorem State.scanFailure_cases {s : State} {allowed : List MsgType} {f : Failure} (h : s.scanFailure allowed = some f) :
    f = .syncMismatch ∨ f = .bufferTooShort ∨ (f = .typeRejected ∧ allowed ≠ []) := by
  unfold State.scanFailure at h
  split_ifs at h with _ _ _ htype <;> obtain rfl := Option.some.inj h
  · exact .inr (.inl rfl)
  · exact .inl rfl
  · exact .inr (.inl rfl)
  · exact .inr (.inr ⟨rfl, fun hnil => htype ((typeAllowed_iff ..).mpr (.inl hnil))⟩)

/-- The validator's failures (R171). -/
theorem State.frameFailure_cases {s : State} {f : Failure} (h : s.frameFailure = some f) :
    f = .syncMismatch ∨ f = .bufferTooShort ∨ f = .checksumMismatch := by
  unfold State.frameFailure at h
  split_ifs at h <;> obtain rfl := Option.some.inj h <;> simp

/-- The Baseline decoder's failures (R191): the validator's, or those of its own two tests. -/
theorem State.baselineFailure_cases {s : State} {f : Failure} (h : s.baselineFailure = some f) :
    s.frameFailure = some f ∨ f = .malformedLength ∨ (f = .typeRejected ∧ s.config.blTypeCheck = true) := by
  unfold State.baselineFailure at h
  split at h
  · exact .inl (‹s.frameFailure = _›.trans h)
  · split_ifs at h with htype <;> obtain rfl := Option.some.inj h
    · exact .inr (.inr ⟨rfl, htype.1⟩)
    · exact .inr (.inl rfl)

/-- Settles O52: the failures of the tests that each answer is a verdict on. -/
theorem failuresOfEachOperation : Obligations.FailuresOfEachOperation := by
  intro i s t f h hrsp
  have hanswer : s.answer i = .fail f := answer_of_exec_next h hrsp
  have validated (v : Value) (hv : verdict s.frameFailure v = .fail f) :
      f = .syncMismatch ∨ f = .bufferTooShort ∨ f = .checksumMismatch :=
    State.frameFailure_cases (verdict_eq_fail_iff.mp hv)
  have baseline (v : Value) (hv : verdict s.baselineFailure v = .fail f) :
      f = .syncMismatch ∨ f = .bufferTooShort ∨ f = .checksumMismatch ∨ f = .malformedLength ∨
        (f = .typeRejected ∧ s.config.blTypeCheck = true) := by
    rcases State.baselineFailure_cases (verdict_eq_fail_iff.mp hv) with hframe | hlength | htype
    · have := State.frameFailure_cases hframe
      tauto
    · exact .inr (.inr (.inr (.inl hlength)))
    · exact .inr (.inr (.inr (.inr htype)))
  cases i with
  | crc16 off len =>
    have hfail : s.crcFailure off len = some f := verdict_eq_fail_iff.mp hanswer
    unfold State.crcFailure at hfail
    split_ifs at hfail
    exact (Option.some.inj hfail).symm
  | scan allowed => exact State.scanFailure_cases (verdict_eq_fail_iff.mp hanswer)
  | validate => exact validated _ hanswer
  | msgOther => exact validated _ hanswer
  | decbl => exact baseline _ hanswer
  | msgBaselineEcef => exact baseline _ hanswer
  | blecef => exact baseline _ hanswer
  | _ => trivial

/-- Settles O53: a success holds the value that the answer gives a verdict on. -/
theorem valueTypeOfEachOperation : Obligations.ValueTypeOfEachOperation := by
  intro i s t v h hrsp
  have hanswer : s.answer i = .ok v := answer_of_exec_next h hrsp
  cases i with
  | _ => exact ⟨_, (verdict_eq_ok_iff.mp hanswer).2⟩

/-! ## CRC16 -/

/-- Settles O14: the range test passes, and the engine's checksum is the bit-by-bit one. -/
theorem crc16AnswersThePolynomialChecksum : Obligations.Crc16AnswersThePolynomialChecksum := by
  intro off len s hfit hrange
  have hanswers : Answers (.crc16 off len) s (s.answer (.crc16 off len)) := answers_of_accepts hfit
  rwa [State.answer, State.crcFailure, if_neg (Nat.not_lt.mpr hrange), verdict_none, crcOf_eq_crcBitwise] at hanswers

/-- Settles O15: the range test fails (R134); the validator's range ends two bytes before its frame does. -/
theorem crc16OutsideTheBufferFails : Obligations.Crc16OutsideTheBufferFails := by
  refine ⟨fun off len s hfit hrange => ?_, fun s hlen => by omega⟩
  have hanswers : Answers (.crc16 off len) s (s.answer (.crc16 off len)) := answers_of_accepts hfit
  rwa [State.answer, State.crcFailure, if_pos hrange, verdict_some] at hanswers

/-! ## The scanner -/

/-- The scanner's type test as R155 words it. -/
theorem not_typeAllowed_iff (allowed : List MsgType) (t : MsgType) :
    ¬ typeAllowed allowed t = true ↔ allowed ≠ [] ∧ t ∉ allowed := by
  rw [typeAllowed_iff, not_or]

/-- Settles O18: `SCAN` answers the verdict of the scanner's tests on the header. -/
theorem scanEndsInItsFirstFailingTest : Obligations.ScanEndsInItsFirstFailingTest := by
  intro allowed s hfit htypes
  have haccepts : s.accepts (.scan allowed) = true := by rw [State.accepts, htypes, hfit]; rfl
  have hanswers : Answers (.scan allowed) s (s.answer (.scan allowed)) := answers_of_accepts haccepts
  rw [State.answer, State.scanFailure, ← ite_not (p := typeAllowed allowed _ = true),
    if_congr (not_typeAllowed_iff allowed _) rfl rfl] at hanswers
  simp only [verdict_ite, verdict_some, verdict_none] at hanswers
  exact hanswers

/-! ## What is built on the validator -/

/-- The validator's failure is the answer of everything built on it (60_exceptions.md R252). -/
theorem State.answer_of_frameFailure {s : State} {f : Failure} (h : s.frameFailure = some f) {i : Instr}
    (hcrc : ∀ off len, i ≠ .crc16 off len) (hscan : ∀ allowed, i ≠ .scan allowed) : s.answer i = .fail f := by
  have hbaseline := State.baselineFailure_of_frameFailure h
  have hobs := State.obsFailure_of_frameFailure h
  cases i with
  | crc16 off len => exact absurd rfl (hcrc off len)
  | scan allowed => exact absurd rfl (hscan allowed)
  | _ => simp only [State.answer, h, hbaseline, hobs, verdict_some]

/-- A buffer below six bytes fails in the scanner for its length or its first byte (R158). -/
theorem State.scanFailure_of_short {s : State} (h : s.bufLen < 6) (allowed : List MsgType) :
    ∃ f, (f = .bufferTooShort ∨ f = .syncMismatch) ∧ s.scanFailure allowed = some f := by
  rw [State.scanFailure]
  split_ifs
  · exact ⟨_, .inl rfl, rfl⟩
  · exact ⟨_, .inr rfl, rfl⟩
  · exact ⟨_, .inl rfl, rfl⟩

/-- On a buffer below six bytes the validator fails as its first step, the unfiltered scan. -/
theorem State.frameFailure_of_short {s : State} (h : s.bufLen < 6) : s.frameFailure = s.scanFailure [] := by
  rw [State.frameFailure, State.scanFailure, if_pos h, if_pos h]

/-- Settles O21: `SCAN` fails so, and everything else but `CRC16` passes the failure of its scan on. -/
theorem shortBuffersFailEverywhere : Obligations.ShortBuffersFailEverywhere := by
  intro i s hcrc hfit htypes hshort
  have haccepts : s.accepts i = true := State.accepts_of_fits hfit htypes
  suffices h : ∃ f, (f = .bufferTooShort ∨ f = .syncMismatch) ∧ s.answer i = .fail f by
    obtain ⟨f, hf, hanswer⟩ := h
    exact ⟨f, hf, hanswer ▸ answers_of_accepts haccepts⟩
  by_cases hscan : ∃ allowed, i = .scan allowed
  · obtain ⟨allowed, rfl⟩ := hscan
    obtain ⟨f, hf, hfail⟩ := State.scanFailure_of_short hshort allowed
    exact ⟨f, hf, verdict_eq_fail_iff.mpr hfail⟩
  · push Not at hscan
    obtain ⟨f, hf, hfail⟩ := State.scanFailure_of_short hshort []
    exact ⟨f, hf, State.answer_of_frameFailure ((State.frameFailure_of_short hshort).trans hfail) hcrc hscan⟩

/-- Settles O24: `MSG_OTHER` answers the verdict of the validator's tests. -/
theorem msgOtherEndsInItsFirstFailingStep : Obligations.MsgOtherEndsInItsFirstFailingStep :=
  fun _ hfit => answers_of_accepts (i := .msgOther) hfit

/-- Settles O23: on a certified frame no test of the validator fails. -/
theorem certifiedFramesValidate : Obligations.CertifiedFramesValidate := by
  intro i s hi hfit hcert
  have hpass : s.frameFailure = none := (State.certified_iff s).mp hcert
  suffices hs : s.accepts i = true ∧ s.answer i = .ok (.header s.header) from hs.2 ▸ answers_of_accepts hs.1
  rcases hi with rfl | rfl <;> exact ⟨hfit, verdict_eq_ok_iff.mpr ⟨hpass, rfl⟩⟩

/-- A certified frame by its three parts, the checksum taken bit by bit. -/
theorem State.certified_iff_crcBitwise (s : State) :
    s.certified = true ↔ s.byte 0 = sync ∧ 8 + s.payloadLen ≤ s.bufLen ∧
      crcBitwise (s.bytesAt 1 (s.payloadLen + 5)) = s.storedChecksum := by
  simp only [State.certified, State.computedChecksum_eq_crcBitwise, Bool.and_eq_true, decide_eq_true_eq, and_assoc]

/-- Whatever succeeds beyond the scanner has a certified frame in the buffer. -/
theorem State.certified_of_answer_ok {s : State} {i : Instr} {v : Value} (hcrc : ∀ off len, i ≠ .crc16 off len)
    (hscan : ∀ allowed, i ≠ .scan allowed) (h : s.answer i = .ok v) : s.certified = true := by
  rw [State.certified_iff]
  cases hf : s.frameFailure with
  | none => rfl
  | some f => cases h.symm.trans (State.answer_of_frameFailure hf hcrc hscan)

/-- Settles O25: a frame that is not certified has a failure of the validator, which would be the answer. -/
theorem onlyCertifiedFramesSucceed : Obligations.OnlyCertifiedFramesSucceed := by
  intro i s t v hcrc hscan h hrsp
  exact (State.certified_iff_crcBitwise s).mp
    (State.certified_of_answer_ok hcrc hscan (answer_of_exec_next h hrsp))

/-! ## The decoders -/

/-- Settles O28: the three answer the verdict of the Baseline decoder's tests on the record. -/
theorem baselineEndsInItsFirstFailingTest : Obligations.BaselineEndsInItsFirstFailingTest := by
  intro i s hi hfit
  rcases hi with rfl | rfl | rfl
  · exact answers_of_accepts (i := .decbl) hfit
  · exact answers_of_accepts (i := .msgBaselineEcef) hfit
  · exact answers_of_accepts (i := .blecef) hfit

/-- The Baseline decoder's tests, each passed. -/
theorem State.baselineFailure_of_certified {s : State} (hcert : s.certified = true) (hlen : s.payloadLen = 20)
    (htype : s.config.blTypeCheck = true → s.half 1 = typeBaselineEcef) : s.baselineFailure = none := by
  have hchecked : ¬ (s.config.blTypeCheck = true ∧ s.half 1 ≠ typeBaselineEcef) := fun h => h.2 (htype h.1)
  simp only [State.baselineFailure, (State.certified_iff s).mp hcert]
  rw [if_neg hchecked, if_neg (not_not.mpr hlen)]

/-- Settles O29: no test fails, and the signed fields of the record are two's complement. -/
theorem certifiedBaselinesDecode : Obligations.CertifiedBaselinesDecode := by
  intro i s hi hfit hcert hlen htype
  have hanswers := baselineEndsInItsFirstFailingTest i s hi hfit
  rw [State.baselineFailure_of_certified hcert hlen htype, verdict_none, State.baselineRecord] at hanswers
  simpa only [signed_eq_toInt (show 0 < 32 by decide)] using hanswers

/-- Settles O31: both answer the verdict of the Observation decoder's tests on the message. -/
theorem observationEndsInItsFirstFailingTest : Obligations.ObservationEndsInItsFirstFailingTest := by
  intro i s hi hfit
  rcases hi with rfl | rfl
  · exact answers_of_accepts (i := .decobs) hfit
  · exact answers_of_accepts (i := .msgObs) hfit

/-- Settles O32: the same tests on the header and on the records. -/
theorem observationLayoutsEndInTheFirstFailingTest : Obligations.ObservationLayoutsEndInTheFirstFailingTest :=
  fun _ hfit => ⟨answers_of_accepts (i := .obshdr) hfit, answers_of_accepts (i := .obsrec) hfit⟩

/-- The Observation decoder's tests, each passed (R213). -/
theorem State.obsFailure_of_certified_length {s : State} {n : Nat} (hcert : s.certified = true)
    (htype : s.half 1 = typeObs) (hlen : s.payloadLen = 11 + 17 * n) : s.obsFailure = none := by
  have hlegal : obsLengthLegal s.payloadLen = true := (obsLengthLegal_iff _).mpr (by omega)
  rw [State.obsFailure_of_certified hcert htype, if_pos hlegal]

/-- The record count is read off the length (R214). -/
theorem State.recordCount_of_length {s : State} {n : Nat} (hlen : s.payloadLen = 11 + 17 * n) : s.recordCount = n := by
  rw [State.recordCount, hlen]
  omega

/-- Settles O33: no test fails, and the count is `n`. -/
theorem certifiedObservationsDecode : Obligations.CertifiedObservationsDecode := by
  intro s n hfit hcert htype hlen
  have hpass : s.obsFailure = none := State.obsFailure_of_certified_length hcert htype hlen
  have hdecobs := observationEndsInItsFirstFailingTest .decobs s (.inl rfl) hfit
  have hmsgObs := observationEndsInItsFirstFailingTest .msgObs s (.inr rfl) hfit
  obtain ⟨hobshdr, hobsrec⟩ := observationLayoutsEndInTheFirstFailingTest s hfit
  rw [hpass, verdict_none] at hdecobs hmsgObs hobshdr hobsrec
  rw [State.recordCount_of_length hlen] at hdecobs hmsgObs hobsrec
  exact ⟨hdecobs, hmsgObs, hobshdr, hobsrec⟩

end Sys2Proof.Machine
end

section
/-! PROOF. A frame at the port is taken by its kind (30_encoding.md R112), or ends in the scanner where there is none (R82). -/

namespace Sys2Proof.Machine

open Sys2Proof

/-! ## The head word -/

theorem State.headBytes_of_le {s : State} (h : 3 ≤ s.bufLen) : s.headBytes = [s.byte 0, s.byte 1, s.byte 2] := by
  rw [State.headBytes, Nat.min_eq_left h]
  rfl

/-- The low byte of the head word is the first byte, 0 when there is none. -/
theorem setWidth_headWord (bytes : List Byte) : (headWord bytes).setWidth 8 = bytes.getD 0 0 := by
  ext i hi
  simp [headWord]

theorem toNat_append_byte (w : Word16) (b : Byte) : (w ++ b : BitVec 24).toNat = 256 * w.toNat + b.toNat := by
  rw [BitVec.toNat_append, ← Nat.shiftLeft_add_eq_or_of_lt b.isLt, Nat.shiftLeft_eq, Nat.mul_comm]

/-- The head word of three bytes is the type above the first byte (R84). -/
theorem headWord_eq_append (b0 b1 b2 : Byte) : headWord [b0, b1, b2] = word16 b1 b2 ++ b0 := by
  have h0 : (b0.setWidth 24).toNat = b0.toNat := BitVec.toNat_setWidth_of_le (by decide)
  have h1 := toNat_or_shiftLeft (k := 8) (b0.setWidth 24) b1 (by omega) (by decide)
  have h2 := toNat_or_shiftLeft (k := 16) (b0.setWidth 24 ||| b1.setWidth 24 <<< 8) b2 (by omega) (by decide)
  have htype := toNat_word16 b1 b2
  apply BitVec.eq_of_toNat_eq
  rw [toNat_append_byte]
  simp only [headWord, List.getD_cons_zero, List.getD_cons_succ]
  omega

/-! ## The frame rows -/

/-- No frame row matches where the first byte is not the sync value: each fixes that byte (R82). -/
theorem decodeFrame_of_wrong_sync {bytes : List Byte} (h : bytes.getD 0 0 ≠ sync) :
    decodeFrame bytes = .error .noFrame := by
  have hrows : ∀ r ∈ frameRows, r.mask.setWidth 8 = BitVec.allOnes 8 ∧ r.bits.setWidth 8 = sync := by decide
  have hnone : frameRows.find? (fun r => headWord bytes &&& r.mask == r.bits) = none := by
    refine List.find?_eq_none.mpr fun r hr hmatch => h ?_
    obtain ⟨hmask, hbits⟩ := hrows r hr
    have hlow := congrArg (BitVec.setWidth 8) (eq_of_beq hmatch)
    rwa [BitVec.setWidth_and, hmask, BitVec.and_allOnes, hbits, setWidth_headWord] at hlow
  rw [decodeFrame, hnone]

/-- A row that fixes sync and type matches just the frames of that type. -/
theorem specificRow_matches (w ty : Word16) :
    (w ++ sync &&& (0xFFFFFF : BitVec 24) == ty ++ sync) = decide (w = ty) := by
  have hmask : (0xFFFFFF : BitVec 24) = BitVec.allOnes 24 := rfl
  rw [hmask, BitVec.and_allOnes, Bool.eq_iff_iff, beq_iff_eq, decide_eq_true_iff, BitVec.append_left_inj]

/-- A row that fixes sync alone matches every frame. -/
theorem syncRow_matches (w : Word16) : (w ++ sync &&& (0x0000FF : BitVec 24) == (0x000055 : BitVec 24)) = true := by
  have hmask : (0x0000FF : BitVec 24) = 0#16 ++ BitVec.allOnes 8 := rfl
  rw [hmask, BitVec.and_append, BitVec.and_allOnes, BitVec.and_zero]
  rfl

/-- With the sync value first, the two specific rows are tried before the third, which takes every type (R112). -/
theorem decodeFrame_of_sync (b1 b2 : Byte) :
    decodeFrame [sync, b1, b2] = .ok (if word16 b1 b2 = typeObs then .msgObs
      else if word16 b1 b2 = typeBaselineEcef then .msgBaselineEcef else .msgOther) := by
  have hobs : (word16 b1 b2 ++ sync &&& (0xFFFFFF : BitVec 24) == 0x004A55) = decide (word16 b1 b2 = typeObs) :=
    specificRow_matches _ typeObs
  have hbaseline : (word16 b1 b2 ++ sync &&& (0xFFFFFF : BitVec 24) == 0x020255) =
      decide (word16 b1 b2 = typeBaselineEcef) := specificRow_matches _ typeBaselineEcef
  have hother := syncRow_matches (word16 b1 b2)
  simp only [decodeFrame, frameRows, headWord_eq_append, List.find?_cons, hobs, hbaseline, hother]
  by_cases ho : word16 b1 b2 = typeObs
  · simp [ho]
  · by_cases hb : word16 b1 b2 = typeBaselineEcef
    · have hne : typeBaselineEcef ≠ typeObs := by decide
      simp [hb, hne]
    · simp [ho, hb]

/-! ## A frame request -/

theorem State.fetch_frame {s : State} (h : s.request = some .frame) : s.fetch = some (formatWord .frame s.headBytes) := by
  simp only [State.fetch, h]

theorem decode_frameWord (bytes : List Byte) : decode (formatWord .frame bytes) = decodeFrame bytes := rfl

/-- Settles O8: the three head bytes are the sync value and the type, which select the row. -/
theorem frameKindSelectsTheDecoder : Obligations.FrameKindSelectsTheDecoder := by
  intro s h hlen hsync
  refine step_of_decode (State.fetch_frame h) ?_
  rw [decode_frameWord, State.headBytes_of_le hlen, hsync]
  exact decodeFrame_of_sync (s.byte 1) (s.byte 2)

/-- The first head byte is that of the buffer, where there is one. -/
theorem State.getD_headBytes {s : State} (h : 1 ≤ s.bufLen) : s.headBytes.getD 0 0 = s.byte 0 := by
  have hlen : 0 < s.headBytes.length := by
    rw [State.headBytes, State.length_bytesAt]
    omega
  rw [List.getD_eq_getElem _ _ hlen]
  exact s.getElem_bytesAt 0 _ 0 hlen

/-- A frame request without the sync value first answers the failure of the unfiltered scan. -/
theorem answers_of_noFrame {s : State} (h : s.request = some .frame) (hfit : s.bufFits = true)
    (hsync : s.headBytes.getD 0 0 ≠ sync) {f : Failure} (hfail : s.scanFailure [] = some f) :
    ∃ t, step s = .next t ∧ AnsweredBy s t (.fail f) := by
  have hdecode : decode (formatWord .frame s.headBytes) = .error .noFrame := decodeFrame_of_wrong_sync hsync
  rw [step_of_noFrame (State.fetch_frame h) hdecode]
  have haccepts : s.accepts (.scan []) = true := by rw [State.accepts, s.typesFit_nil, hfit]; rfl
  have hanswer : s.answer (.scan []) = .fail f := verdict_eq_fail_iff.mpr hfail
  exact hanswer ▸ answers_of_accepts haccepts

/-- Settles O9: neither buffer has the sync value first, so the scanner's failure is the answer. -/
theorem noFrameEndsInTheScanner : Obligations.NoFrameEndsInTheScanner := by
  intro s h hfit
  constructor
  · intro hempty
    have hhead : s.headBytes = [] := by rw [State.headBytes, hempty]; rfl
    exact answers_of_noFrame h hfit (by rw [hhead]; decide) (by rw [State.scanFailure, if_pos hempty])
  · intro hlen hsync
    exact answers_of_noFrame h hfit (by rwa [State.getD_headBytes hlen])
      (State.scanFailure_of_wrong_sync hlen hsync [])

end Sys2Proof.Machine
end

section
/-! PROOF. The invariant of the machine: every answer is a legal response (10_state.md R29, R33, 30_encoding.md R101), so every
step keeps it. -/

namespace Sys2Proof.Machine

open Sys2Proof

/-! ## Legal values -/

theorem State.baselineRecord_wf (s : State) : s.baselineRecord.wf = true := by
  have h32 : 0 < 32 := by decide
  rw [BaselineECEF.wf, State.baselineRecord, inRange_signed h32, inRange_signed h32, inRange_signed h32]
  rfl

theorem State.observationHeader_wf (s : State) : s.observationHeader.wf = true := inRange_signed (by decide) _

theorem State.observationRecord_wf (s : State) (k : Nat) : (s.observationRecord k).wf = true := by
  rw [ObservationRecord.wf, State.observationRecord, inRange_signed (by decide), inRange_signed (by decide)]
  rfl

/-- Fourteen records at most, each legal (R33). -/
theorem State.observationRecords_wf (s : State) : obsRecordsWf (s.observationRecords s.recordCount) = true := by
  have hlen : (s.observationRecords s.recordCount).length ≤ maxObsRecords := by
    rw [State.observationRecords, List.length_map, List.length_range]
    exact s.recordCount_le
  have hall : ∀ r ∈ s.observationRecords s.recordCount, r.wf = true := by
    intro r hr
    obtain ⟨k, -, rfl⟩ := List.mem_map.mp hr
    exact s.observationRecord_wf k
  rw [obsRecordsWf, decide_eq_true hlen, List.all_eq_true.mpr hall, Bool.and_self]

theorem State.observationMessage_wf (s : State) : (Response.ok (.observations s.observationMessage)).wf = true := by
  rw [Response.wf, State.observationMessage, s.observationHeader_wf, s.observationRecords_wf, Bool.and_self]

/-! ## Legal responses -/

/-- A verdict is legal if its value is where no test fails; a failure carries no value (60_exceptions.md R248). -/
theorem verdict_wf {o : Option Failure} {v : Value} (h : o = none → (Response.ok v).wf = true) :
    (verdict o v).wf = true := by
  cases o with
  | none => exact h rfl
  | some f => rfl

/-- Where the scanner's tests pass, the preamble is the sync value (R29). -/
theorem State.byte_zero_of_scanFailure_none {s : State} {allowed : List MsgType} (h : s.scanFailure allowed = none) :
    s.byte 0 = sync := by
  by_contra hsync
  have hlen := State.length_of_scanFailure_none h
  cases h.symm.trans (State.scanFailure_of_wrong_sync (by omega) hsync allowed)

theorem State.byte_zero_of_frameFailure_none {s : State} (h : s.frameFailure = none) : s.byte 0 = sync :=
  ((State.certified_iff_crcBitwise s).mp ((State.certified_iff s).mpr h)).1

theorem State.header_wf {s : State} (h : s.byte 0 = sync) : (Response.ok (.header s.header)).wf = true :=
  beq_iff_eq.mpr h

/-- Every answer is a legal response. -/
theorem State.answer_wf (s : State) (i : Instr) : (s.answer i).wf = true := by
  have validated : (verdict s.frameFailure (.header s.header)).wf = true :=
    verdict_wf fun h => State.header_wf (State.byte_zero_of_frameFailure_none h)
  cases i with
  | crc16 off len => exact verdict_wf fun _ => rfl
  | scan allowed => exact verdict_wf fun h => State.header_wf (State.byte_zero_of_scanFailure_none h)
  | validate => exact validated
  | msgOther => exact validated
  | decbl => exact verdict_wf fun _ => s.baselineRecord_wf
  | msgBaselineEcef => exact verdict_wf fun _ => s.baselineRecord_wf
  | blecef => exact verdict_wf fun _ => s.baselineRecord_wf
  | decobs => exact verdict_wf fun _ => s.observationMessage_wf
  | msgObs => exact verdict_wf fun _ => s.observationMessage_wf
  | obshdr => exact verdict_wf fun _ => s.observationHeader_wf
  | obsrec => exact verdict_wf fun _ => s.observationRecords_wf

/-! ## The invariant -/

/-- A legal response keeps the invariant: the buffer and the configuration stay, and the free value of `NREC` is in 0..14. -/
theorem State.inv_respond {s : State} {r : Response} (hinv : s.inv = true) (hr : r.wf = true) :
    (s.respond r).inv = true := by
  simp only [State.inv, Bool.and_eq_true] at hinv ⊢
  obtain ⟨⟨⟨⟨hbuf, hbelow⟩, hconfig⟩, -⟩, -⟩ := hinv
  exact ⟨⟨⟨⟨hbuf, hbelow⟩, hconfig⟩, decide_eq_true (Work.unspecified_nrec_le s.draws)⟩, hr⟩

/-- Settles O49: a step leaves the state as it is or delivers an answer, which is legal. -/
theorem stepKeepsTheInvariant : Obligations.StepKeepsTheInvariant := by
  intro s t hinv h
  rcases step_next h with rfl | ⟨i, rfl⟩
  · exact hinv
  · exact State.inv_respond hinv (s.answer_wf i)

/-! ## Reset and status -/

/-- Settles O50: the reset state, evaluated. -/
theorem resetMeetsTheInvariant : Obligations.ResetMeetsTheInvariant := by
  unfold Obligations.ResetMeetsTheInvariant
  decide

/-- Settles O51: the fields of both resets. -/
theorem resetLeavesTheCoreIdle : Obligations.ResetLeavesTheCoreIdle :=
  ⟨rfl, rfl, rfl, rfl, fun s =>
    ⟨s.coreReset_request, s.coreReset_rsp, s.coreReset_config, s.coreReset_buf, s.coreReset_bufLen, s.coreReset_cmd,
      s.coreReset_off, s.coreReset_len, s.coreReset_allowed⟩⟩

/-- The codes of the failures are 1 to 5 (60_exceptions.md R241). -/
theorem Failure.code_le (f : Failure) : f.code ≤ 5 := by
  cases f <;> decide

/-- Settles O54: the listed codes, and the bound on all of them. -/
theorem statusCodes : Obligations.StatusCodes := by
  refine ⟨fun _ => rfl, rfl, rfl, rfl, rfl, rfl, fun r => ?_⟩
  have hle : r.status ≤ 5 := by
    cases r with
    | ok v => exact (by decide : (0 : BitVec 3) ≤ 5)
    | fail f => exact f.code_le
  constructor <;> intro h <;> rw [h] at hle <;> exact absurd hle (by decide)

end Sys2Proof.Machine
end

section
/-! PROOF. The checksum as a linear and injective map (40_checksum.md R132, R136, R139, R140), and what that means for a frame
with one byte changed (42_frame_validate.md R179). -/

namespace Sys2Proof.Machine

open Sys2Proof

/-! ## The table -/

/-- Settles O10: 32 rows of 8, and the 256 entries compared with the rule. -/
theorem crcTableIsGenerated : Obligations.CrcTableIsGenerated := ⟨by decide +kernel, crcTable_eq_crcGenerated⟩

/-- Settles O11: the generating rule starts from the index shifted and takes eight linear turns. -/
theorem crcTableIsLinear : Obligations.CrcTableIsLinear := by
  intro a b
  simp only [crcTable_eq_crcGenerated, crcGenerated, BitVec.setWidth_xor, BitVec.shiftLeft_xor_distrib, crcShift8_xor]

/-- Settles O12: `crcStep_eq_crcBitStep`. -/
theorem tableStepIsBitwiseStep : Obligations.TableStepIsBitwiseStep := crcStep_eq_crcBitStep

/-- Settles O13: the nine steps, evaluated. -/
theorem nineDigitsGiveTheCheckValue : Obligations.NineDigitsGiveTheCheckValue := by
  unfold Obligations.NineDigitsGiveTheCheckValue
  decide +kernel

/-! ## Linearity (R139) -/

theorem crcStep_xor (a b : Word16) (x y : Byte) : crcStep (a ^^^ b) (x ^^^ y) = crcStep a x ^^^ crcStep b y := by
  have harrange : a ^^^ b ^^^ (x ^^^ y).setWidth 16 <<< 8 =
      (a ^^^ x.setWidth 16 <<< 8) ^^^ (b ^^^ y.setWidth 16 <<< 8) := by
    rw [BitVec.setWidth_xor, BitVec.shiftLeft_xor_distrib]
    ac_rfl
  simp only [crcStep_eq_crcBitStep, crcBitStep, harrange, crcShift8_xor]

/-- From any two accumulators, the checksum of a bytewise XOR is the XOR of the checksums. -/
theorem foldl_crcStep_xor (a b : Word16) {xs ys : List Byte} (hlen : xs.length = ys.length) :
    (List.zipWith (· ^^^ ·) xs ys).foldl crcStep (a ^^^ b) = xs.foldl crcStep a ^^^ ys.foldl crcStep b := by
  induction xs generalizing a b ys with
  | nil =>
    obtain rfl := List.length_eq_zero_iff.mp hlen.symm
    rfl
  | cons x xs ih =>
    cases ys with
    | nil => cases hlen
    | cons y ys =>
      rw [List.zipWith_cons_cons, List.foldl_cons, crcStep_xor, ih _ _ (Nat.succ.inj hlen)]
      rfl

/-- Zero bytes leave the initial accumulator. -/
theorem foldl_crcStep_zeros (n : Nat) : (List.replicate n 0).foldl crcStep 0 = 0 := by
  have hstep : crcStep 0 0 = 0 := by decide
  induction n with
  | zero => rfl
  | succ n ih => rw [List.replicate_succ, List.foldl_cons, hstep, ih]

/-- A byte equal to the accumulator's high byte makes the index 0, so the step only shifts. -/
theorem crcStep_highByte (acc : Word16) : crcStep acc (acc.extractLsb' 8 8) = acc <<< 8 := by
  have hhigh : (acc >>> 8).setWidth 8 = acc.extractLsb' 8 8 := by
    ext i hi
    simp
  have htable : crcTable 0 = 0#16 := by decide
  have hindex : crcIndex acc (acc.extractLsb' 8 8) = 0 := by
    rw [crcIndex, hhigh, BitVec.xor_self]
    rfl
  rw [crcStep, hindex, crcUpdate, htable, BitVec.xor_zero]

/-- The checksum's two bytes, high byte first, shift it out of the accumulator. -/
theorem crcStep_crcStep_bytes (acc : Word16) :
    crcStep (crcStep acc (acc.extractLsb' 8 8)) (acc.extractLsb' 0 8) = 0 := by
  have hlow : acc.extractLsb' 0 8 = (acc <<< 8).extractLsb' 8 8 := by
    ext i hi
    simp [show 8 + i < 16 by omega, BitVec.getLsbD_eq_getElem (show i < 16 by omega)]
  rw [crcStep_highByte, hlow, crcStep_highByte, ← BitVec.shiftLeft_add]
  exact BitVec.shiftLeft_eq_zero (by decide)

/-- Settles O16: zeros keep the initial accumulator, linearity is from the accumulators 0 and 0, and the appended checksum
shifts itself out. -/
theorem checksumZerosLinearityResidue : Obligations.ChecksumZerosLinearityResidue := by
  refine ⟨fun n m => ?_, fun a b hlen => ?_, fun m => ?_⟩
  · rw [crcOf, List.foldl_append, crcInit, foldl_crcStep_zeros]
    rfl
  · exact foldl_crcStep_xor 0 0 hlen
  · rw [crcOf, List.foldl_append]
    exact crcStep_crcStep_bytes (crcOf m)

/-! ## Injectivity (R140) -/

/-- The polynomial has its lowest bit set, so a turn can be undone: that bit tells whether the polynomial was subtracted. -/
theorem eq_zero_of_crcShift_eq_zero {r : Word16} (h : crcShift r = 0) : r = 0 := by
  have htop : r.getLsbD 15 = false := by
    by_contra hset
    have hbit : (r <<< 1 ^^^ crcPoly).getLsbD 0 = (0 : Word16).getLsbD 0 := by
      rw [← h, crcShift, if_pos (Bool.not_eq_false _ ▸ hset)]
    simp [crcPoly] at hbit
  rw [crcShift_of_top_clear htop] at h
  ext i hi
  by_cases h15 : i = 15
  · subst h15
    simpa using htop
  · have hbit : (r <<< 1).getLsbD (i + 1) = (0 : Word16).getLsbD (i + 1) := by rw [h]
    simpa [show i + 1 < 16 by omega] using hbit

theorem crcShift_injective : Function.Injective crcShift := by
  intro a b h
  rw [← BitVec.xor_eq_zero_iff]
  refine eq_zero_of_crcShift_eq_zero ?_
  rw [crcShift_xor, h, BitVec.xor_self]
  rfl

theorem crcShift8_injective : Function.Injective crcShift8 :=
  crcShift_injective.iterate 8

/-- A step from different accumulators on one byte ends in different accumulators. -/
theorem crcStep_left_injective (x : Byte) : Function.Injective fun acc => crcStep acc x := by
  intro a b h
  simp only [crcStep_eq_crcBitStep] at h
  exact (BitVec.xor_left_inj _).mp (crcShift8_injective h)

theorem extractLsb'_dataByte (x : Byte) : (x.setWidth 16 <<< 8).extractLsb' 8 8 = x := by
  ext i hi
  simp [show 8 + i < 16 by omega, BitVec.getLsbD_eq_getElem hi]

/-- Steps from one accumulator on different bytes end in different accumulators. -/
theorem crcStep_right_injective (acc : Word16) : Function.Injective (crcStep acc) := by
  intro x y h
  simp only [crcStep_eq_crcBitStep] at h
  have hshift : x.setWidth 16 <<< 8 = y.setWidth 16 <<< 8 := (BitVec.xor_right_inj _).mp (crcShift8_injective h)
  rw [← extractLsb'_dataByte x, hshift, extractLsb'_dataByte]

theorem foldl_crcStep_injective (bs : List Byte) : Function.Injective fun acc => bs.foldl crcStep acc := by
  induction bs with
  | nil => exact fun _ _ h => h
  | cons x bs ih => exact ih.comp (crcStep_left_injective x)

/-- Settles O17: the changed byte leads to another accumulator, and the bytes behind it keep the two apart. -/
theorem singleByteErrorsChangeTheChecksum : Obligations.SingleByteErrorsChangeTheChecksum := by
  intro front back x y hne heq
  simp only [crcOf, List.foldl_append, List.foldl_cons] at heq
  exact hne (crcStep_right_injective _ (foldl_crcStep_injective back heq))

end Sys2Proof.Machine
end

section
/-! PROOF. The frame in the buffer against changes of the buffer: a byte changed inside it (42_frame_validate.md R179), and the
bytes behind it (20_memory.md R57, 42_frame_validate.md R177). -/

namespace Sys2Proof.Machine

open Sys2Proof

/-! ## Runs of bytes, cut in two -/

theorem State.bytesAt_add (s : State) (a m n : Nat) : s.bytesAt a (m + n) = s.bytesAt a m ++ s.bytesAt (a + m) n := by
  simp only [State.bytesAt, List.range_add, List.map_append, List.map_map, Function.comp_def, Nat.add_assoc]

theorem State.bytesAt_one (s : State) (a : Nat) : s.bytesAt a 1 = [s.byte a] := rfl

/-! ## One changed byte -/

theorem word16_inj {a b c d : Byte} : word16 a b = word16 c d ↔ a = c ∧ b = d := by
  obtain ⟨hc, hd⟩ := (word16_eq_iff c d _).mp rfl
  rw [word16_eq_iff, ← hc, ← hd]

/-- A run of bytes that differs in one place has another checksum. -/
theorem crcOf_bytesAt_ne {s t : State} {a n k : Nat} (hlo : a ≤ k) (hhi : k < a + n) (hne : t.byte k ≠ s.byte k)
    (hrest : ∀ j, j ≠ k → t.byte j = s.byte j) : crcOf (t.bytesAt a n) ≠ crcOf (s.bytesAt a n) := by
  obtain ⟨i, rfl⟩ := Nat.exists_eq_add_of_le hlo
  obtain ⟨m, rfl⟩ : ∃ m, n = i + (1 + m) := ⟨n - i - 1, by omega⟩
  have hfront : t.bytesAt a i = s.bytesAt a i := State.bytesAt_congr fun j hj => hrest _ (by omega)
  have hback : t.bytesAt (a + i + 1) m = s.bytesAt (a + i + 1) m := State.bytesAt_congr fun j hj => hrest _ (by omega)
  simp only [State.bytesAt_add, State.bytesAt_one, hfront, hback]
  exact singleByteErrorsChangeTheChecksum _ _ _ _ hne

/-- A complete frame whose checksum is not its trailer fails the last test alone. -/
theorem State.frameFailure_of_mismatch {s : State} (hsync : s.byte 0 = sync) (hlen : 8 + s.payloadLen ≤ s.bufLen)
    (hne : s.computedChecksum ≠ s.storedChecksum) : s.frameFailure = some .checksumMismatch := by
  rw [State.frameFailure, if_neg (by omega), if_neg (not_not.mpr hsync), if_neg (by omega), if_neg (by omega), if_neg hne]

/-- A byte changed below the trailer changes the computed checksum, one of the trailer the stored one (R179). -/
theorem computedChecksum_ne_of_changed {s t : State} {k : Nat} (hcert : s.computedChecksum = s.storedChecksum)
    (hlo : 1 ≤ k) (hhi : k < 8 + s.payloadLen) (hpayload : t.payloadLen = s.payloadLen) (hne : t.byte k ≠ s.byte k)
    (hrest : ∀ j, j ≠ k → t.byte j = s.byte j) : t.computedChecksum ≠ t.storedChecksum := by
  rw [State.computedChecksum, State.storedChecksum, hpayload]
  by_cases hcovered : k < 6 + s.payloadLen
  · have hstored : t.half (6 + s.payloadLen) = s.storedChecksum := by
      rw [State.half, hrest _ (by omega), hrest _ (by omega), State.storedChecksum, State.half]
    rw [hstored, ← hcert]
    exact crcOf_bytesAt_ne hlo (by omega) hne hrest
  · have hcomputed : t.bytesAt 1 (s.payloadLen + 5) = s.bytesAt 1 (s.payloadLen + 5) :=
      State.bytesAt_congr fun j hj => hrest _ (by omega)
    rw [hcomputed]
    intro heq
    obtain ⟨hlow, hhigh⟩ := word16_inj.mp (hcert.symm.trans heq)
    have htrailer : k = 6 + s.payloadLen ∨ k = 6 + s.payloadLen + 1 := by omega
    rcases htrailer with rfl | rfl
    · exact hne hlow.symm
    · exact hne hhigh.symm

/-- Settles O27: every test but the last passes as on the certified frame. -/
theorem oneChangedByteIsAChecksumMismatch : Obligations.OneChangedByteIsAChecksumMismatch := by
  intro i s t k hcrc hscan hcert hfit hbufLen hlo hhi hk5 hne hrest
  simp only [State.certified, Bool.and_eq_true, decide_eq_true_eq] at hcert
  obtain ⟨⟨hsync, hlen⟩, hsum⟩ := hcert
  have hpayload : t.payloadLen = s.payloadLen := congrArg BitVec.toNat (hrest 5 (Ne.symm hk5))
  have hfail : t.frameFailure = some .checksumMismatch :=
    State.frameFailure_of_mismatch ((hrest 0 (by omega)).trans hsync) (by omega)
      (computedChecksum_ne_of_changed hsum hlo hhi hpayload hne hrest)
  exact State.answer_of_frameFailure hfail hcrc hscan ▸ answers_of_accepts (State.accepts_of_bufFits hfit hscan)

/-! ## The bytes behind the frame -/

/-- The machine after reset, of the same configuration, with nothing but the frame in its buffer. -/
def State.frameOnly (s : State) : State :=
  { State.reset with buf := s.buf, bufLen := 8 + s.payloadLen, config := s.config }

/-- The frame alone is certified just when it is so in the buffer that holds it. -/
theorem State.certified_frameOnly {s : State} (h : 8 + s.payloadLen ≤ s.bufLen) :
    s.frameOnly.certified = s.certified := by
  have hfull : decide (8 + s.payloadLen ≤ s.bufLen) = decide (8 + s.frameOnly.payloadLen ≤ s.frameOnly.bufLen) :=
    decide_eq_decide.mpr ⟨fun _ => le_rfl, fun _ => h⟩
  rw [State.certified, State.certified, hfull]
  rfl

/-- Of a buffer that holds a header only the type is left to the scanner (R155). -/
theorem State.scanFailure_of_header {s : State} (hsync : s.byte 0 = sync) (hlen : 6 ≤ s.bufLen)
    (allowed : List MsgType) :
    s.scanFailure allowed = if typeAllowed allowed (s.half 1) = true then none else some .typeRejected := by
  rw [State.scanFailure, if_neg (by omega), if_neg (not_not.mpr hsync), if_neg (by omega)]

/-- No answer on a certified frame but that of `CRC16` depends on what follows the frame. -/
theorem State.answer_frameOnly {s : State} {i : Instr} (hcert : s.certified = true) (hcrc : ∀ off len, i ≠ .crc16 off len) :
    s.frameOnly.answer i = s.answer i := by
  have hlen := State.certified_length hcert
  have hpass : s.frameFailure = none := (State.certified_iff s).mp hcert
  have hsync : s.byte 0 = sync := State.byte_zero_of_frameFailure_none hpass
  have hframe : s.frameOnly.frameFailure = s.frameFailure :=
    ((State.certified_iff _).mp ((State.certified_frameOnly hlen).trans hcert)).trans hpass.symm
  have hscan (allowed : List MsgType) : s.frameOnly.scanFailure allowed = s.scanFailure allowed := by
    have hsix : 6 ≤ s.frameOnly.bufLen := (by omega : 6 ≤ 8 + s.payloadLen)
    rw [State.scanFailure_of_header hsync (by omega), State.scanFailure_of_header (s := s.frameOnly) hsync hsix]
    rfl
  have hbaseline : s.frameOnly.baselineFailure = s.baselineFailure := by
    rw [State.baselineFailure, hframe]
    rfl
  have hobs : s.frameOnly.obsFailure = s.obsFailure := by
    rw [State.obsFailure, hframe]
    rfl
  cases i with
  | crc16 off len => exact absurd rfl (hcrc off len)
  | scan allowed => exact verdict_congr (hscan allowed) fun _ => rfl
  | validate => exact verdict_congr hframe fun _ => rfl
  | msgOther => exact verdict_congr hframe fun _ => rfl
  | decbl => exact verdict_congr hbaseline fun _ => rfl
  | msgBaselineEcef => exact verdict_congr hbaseline fun _ => rfl
  | blecef => exact verdict_congr hbaseline fun _ => rfl
  | decobs => exact verdict_congr hobs fun _ => rfl
  | msgObs => exact verdict_congr hobs fun _ => rfl
  | obshdr => exact verdict_congr hobs fun _ => rfl
  | obsrec => exact verdict_congr hobs fun _ => rfl

/-- Settles O26: the two frames alone are the same operands, so each answer is theirs. -/
theorem bytesAfterTheFrameAreIgnored : Obligations.BytesAfterTheFrameAreIgnored := by
  intro i s t hcrc hconfig hsfit htfit hcert hlen hbytes
  have hpayload : t.payloadLen = s.payloadLen := congrArg BitVec.toNat (hbytes 5 (by omega))
  have hsame : SameOperands s.frameOnly t.frameOnly :=
    ⟨rfl, rfl, rfl, rfl, rfl, congrArg (8 + ·) hpayload.symm, fun a ha => (hbytes a ha).symm, hconfig⟩
  have htcert : t.certified = true := by
    rw [← State.certified_frameOnly (by omega), State.certified_iff, ← hsame.frameFailure_eq, ← State.certified_iff,
      State.certified_frameOnly (State.certified_length hcert), hcert]
  have hanswer : s.answer i = t.answer i := by
    rw [← State.answer_frameOnly hcert hcrc, ← State.answer_frameOnly htcert hcrc, hsame.answer_eq]
  have haccepts : s.accepts i = t.accepts i := by
    cases i with
    | scan allowed => rw [State.accepts, State.typesFit, hconfig, hsfit, State.accepts, State.typesFit, htfit]
    | _ => exact hsfit.trans htfit.symm
  rw [responseOf_exec, responseOf_exec, haccepts, hanswer]

end Sys2Proof.Machine
end

section
/-! PROOF. Records against the bytes that hold them (30_encoding.md R52, R90, R95, R97, R99): a buffer holds the bytes of a legal
record just when it reads as that record. One direction is the round trip through a frame, the other that no byte is lost. -/

namespace Sys2Proof.Machine

open Sys2Proof

/-! ## Bytes at an index -/

/-- `BUF` holds these bytes from index `a` on. -/
def State.holds (s : State) (a : Nat) (bs : List Byte) : Prop := s.bytesAt a bs.length = bs

theorem State.holds_nil (s : State) (a : Nat) : s.holds a [] := rfl

theorem State.holds_append (s : State) (a : Nat) (xs ys : List Byte) :
    s.holds a (xs ++ ys) ↔ s.holds a xs ∧ s.holds (a + xs.length) ys := by
  rw [State.holds, List.length_append, State.bytesAt_add]
  exact ⟨fun h => List.append_inj h (State.length_bytesAt ..), fun ⟨hx, hy⟩ => congrArg₂ (· ++ ·) hx hy⟩

theorem State.holds_singleton (s : State) (a : Nat) (b : Byte) : s.holds a [b] ↔ s.byte a = b := by
  rw [State.holds, List.length_singleton, State.bytesAt_one, List.singleton_inj]

theorem State.holds_cons (s : State) (a : Nat) (b : Byte) (bs : List Byte) :
    s.holds a (b :: bs) ↔ s.byte a = b ∧ s.holds (a + 1) bs := by
  rw [← List.singleton_append, State.holds_append, State.holds_singleton, List.length_singleton]

/-- A loaded buffer holds what was loaded. -/
theorem State.holds_loadBuffer (s : State) (bs : List Byte) : (s.loadBuffer bs).holds 0 bs := by
  refine List.ext_getElem (State.length_bytesAt ..) fun j hj hj' => ?_
  rw [State.getElem_bytesAt, Nat.zero_add, State.byte_loadBuffer, List.getD_eq_getElem _ _ hj']

/-! ## Fields -/

theorem State.holds_bytes16 (s : State) (a : Nat) (v : Word16) : s.holds a (bytes16 v) ↔ s.half a = v := by
  rw [bytes16, State.holds_cons, State.holds_singleton, State.half, word16_eq_iff]

theorem State.holds_bytes32 (s : State) (a : Nat) (v : Word32) : s.holds a (bytes32 v) ↔ s.full a = v := by
  rw [bytes32, State.holds_cons, State.holds_cons, State.holds_cons, State.holds_singleton, State.full, word32_eq_iff]

theorem State.holds_bytesI16 {v : Int} (hv : inRange 16 v = true) (s : State) (a : Nat) :
    s.holds a (bytesI16 v) ↔ signed (s.half a) = v := by
  rw [bytesI16, State.holds_bytes16, eq_ofInt_iff (by decide) hv]

theorem State.holds_bytesI32 {v : Int} (hv : inRange 32 v = true) (s : State) (a : Nat) :
    s.holds a (bytesI32 v) ↔ signed (s.full a) = v := by
  rw [bytesI32, State.holds_bytes32, eq_ofInt_iff (by decide) hv]

@[simp] theorem length_bytes16 (v : Word16) : (bytes16 v).length = 2 := rfl
@[simp] theorem length_bytes32 (v : Word32) : (bytes32 v).length = 4 := rfl
@[simp] theorem length_bytesI16 (v : Int) : (bytesI16 v).length = 2 := rfl
@[simp] theorem length_bytesI32 (v : Int) : (bytesI32 v).length = 4 := rfl

/-! ## Records -/

@[simp] theorem length_baselinePayload (r : BaselineECEF) : (baselinePayload r).length = 20 := rfl
@[simp] theorem length_observationHeaderBytes (indexLow : Bool) (h : ObservationHeader) :
    (observationHeaderBytes indexLow h).length = 11 := rfl
@[simp] theorem length_observationRecordBytes (r : ObservationRecord) : (observationRecordBytes r).length = 17 := rfl

/-- The layout of R99. -/
theorem State.holds_baselinePayload {r : BaselineECEF} (hr : r.wf = true) (s : State) :
    s.holds 6 (baselinePayload r) ↔ s.baselineRecord = r := by
  obtain ⟨tow, x, y, z, accuracy, count, flags⟩ := r
  simp only [BaselineECEF.wf, Bool.and_eq_true] at hr
  obtain ⟨⟨hx, hy⟩, hz⟩ := hr
  simp only [baselinePayload, State.holds_append, State.holds_cons, State.holds_nil, State.holds_bytes32,
    State.holds_bytesI32 hx, State.holds_bytesI32 hy, State.holds_bytesI32 hz, State.holds_bytes16,
    List.length_append, length_bytes16, length_bytes32, length_bytesI32,
    State.baselineRecord, BaselineECEF.mk.injEq, and_true, and_assoc]

/-- The layout of R90, in the nibble order of the configuration (R94). -/
theorem State.holds_observationHeaderBytes {h : ObservationHeader} (hh : h.wf = true) (s : State) :
    s.holds 6 (observationHeaderBytes s.config.fragIndexLow h) ↔ s.observationHeader = h := by
  obtain ⟨tow, residual, week, index, total⟩ := h
  simp only [observationHeaderBytes, State.holds_append, State.holds_singleton, State.holds_bytes32,
    State.holds_bytesI32 hh, State.holds_bytes16, List.length_append, length_bytes16, length_bytes32, length_bytesI32,
    eq_packNibbles_iff, State.observationHeader, ObservationHeader.mk.injEq, and_assoc]

/-- The layout of R95, with the flags byte of R97. -/
theorem State.holds_observationRecordBytes {r : ObservationRecord} (hr : r.wf = true) (s : State) (k : Nat) :
    s.holds (17 + 17 * k) (observationRecordBytes r) ↔ s.observationRecord k = r := by
  obtain ⟨pseudorange, phase, phaseFrac, doppler, dopplerFrac, cn0, lock, flags, sat, code⟩ := r
  simp only [ObservationRecord.wf, Bool.and_eq_true] at hr
  obtain ⟨hphase, hdoppler⟩ := hr
  simp only [observationRecordBytes, State.holds_append, State.holds_cons, State.holds_nil, State.holds_bytes32,
    State.holds_bytesI32 hphase, State.holds_bytesI16 hdoppler, List.length_append, List.length_singleton,
    length_bytes32, length_bytesI32, length_bytesI16, eq_packFlags_iff,
    State.observationRecord, ObservationRecord.mk.injEq, and_true, and_assoc, Nat.add_assoc, Nat.reduceAdd]

/-- The records in wire order, each 17 bytes behind the one before it (R217). -/
theorem State.holds_flatMap_observationRecordBytes {rs : List ObservationRecord} (hrs : ∀ r ∈ rs, r.wf = true) (s : State)
    (k : Nat) :
    s.holds (17 + 17 * k) (rs.flatMap observationRecordBytes) ↔
      (List.range' k rs.length).map s.observationRecord = rs := by
  induction rs generalizing k with
  | nil => exact iff_of_true (s.holds_nil _) rfl
  | cons r rs ih =>
    obtain ⟨hr, hrs⟩ := List.forall_mem_cons.mp hrs
    have hnext : 17 + 17 * k + 17 = 17 + 17 * (k + 1) := by omega
    rw [List.flatMap_cons, State.holds_append, State.holds_observationRecordBytes hr, length_observationRecordBytes,
      hnext, ih hrs, List.length_cons, List.range'_succ, List.map_cons, List.cons.injEq]

theorem length_flatMap_observationRecordBytes (rs : List ObservationRecord) :
    (rs.flatMap observationRecordBytes).length = 17 * rs.length := by
  induction rs with
  | nil => rfl
  | cons r rs ih =>
    rw [List.flatMap_cons, List.length_append, length_observationRecordBytes, ih, List.length_cons]
    omega

theorem length_observationPayload (indexLow : Bool) (m : ObservationMessage) :
    (observationPayload indexLow m).length = 11 + 17 * m.records.length := by
  rw [observationPayload, List.length_append, length_observationHeaderBytes, length_flatMap_observationRecordBytes]

/-- The header, then the records. -/
theorem State.holds_observationPayload {m : ObservationMessage} (hm : (Response.ok (.observations m)).wf = true) (s : State) :
    s.holds 6 (observationPayload s.config.fragIndexLow m) ↔
      s.observationHeader = m.header ∧ s.observationRecords m.records.length = m.records := by
  simp only [Response.wf, obsRecordsWf, Bool.and_eq_true, List.all_eq_true] at hm
  obtain ⟨hheader, -, hrecords⟩ := hm
  rw [observationPayload, State.holds_append, State.holds_observationHeaderBytes hheader, length_observationHeaderBytes]
  exact and_congr_right' ((State.holds_flatMap_observationRecordBytes hrecords s 0).trans (by
    rw [State.observationRecords, List.range_eq_range']))

/-- The length of an Observation frame that passes its tests (R213). -/
theorem State.payloadLen_of_obsFailure_none {s : State} (h : s.obsFailure = none) :
    s.payloadLen = 11 + 17 * s.recordCount := by
  rcases obsFrame_eq s s.work with ⟨f, hf, -⟩ | ⟨-, -, hlen, -⟩
  · cases h.symm.trans hf
  · exact hlen

/-! ## A frame at the front of the buffer -/

/-- A buffer that begins with the bytes of a frame holds a certified frame of its type around its payload. -/
theorem State.certified_of_holds_frameBytes {s : State} {ty : MsgType} {sender : Word16} {payload : List Byte}
    (hlen : payload.length ≤ 255) (hbuf : 8 + payload.length ≤ s.bufLen)
    (h : s.holds 0 (frameBytes ty sender payload)) :
    s.certified = true ∧ s.half 1 = ty ∧ s.payloadLen = payload.length ∧ s.holds 6 payload := by
  have hcoveredLen : (coveredBytes ty sender payload).length = payload.length + 5 := by
    simp only [coveredBytes, List.length_append, length_bytes16, List.length_singleton]
    omega
  rw [frameBytes, State.holds_append, State.holds_cons, List.length_cons, hcoveredLen, State.holds_bytes16] at h
  obtain ⟨⟨hsync, hcovered⟩, hstored⟩ := h
  have hparts := hcovered
  simp only [coveredBytes, State.holds_append, State.holds_bytes16, State.holds_singleton, List.length_append,
    length_bytes16, List.length_singleton] at hparts
  obtain ⟨⟨⟨htype, -⟩, hlength⟩, hpayload⟩ := hparts
  have hpayloadLen : s.payloadLen = payload.length :=
    calc s.payloadLen = (BitVec.ofNat 8 payload.length).toNat := congrArg BitVec.toNat hlength
      _ = payload.length := Nat.mod_eq_of_lt (by omega)
  have hcomputed : s.computedChecksum = crcOf (coveredBytes ty sender payload) := by
    rw [State.computedChecksum, hpayloadLen, ← hcoveredLen]
    exact congrArg crcOf hcovered
  have htrailer : s.storedChecksum = crcOf (coveredBytes ty sender payload) := by
    have hindex : 6 + payload.length = 0 + (payload.length + 5 + 1) := by omega
    rw [State.storedChecksum, hpayloadLen, hindex, hstored]
  have hcert : s.certified = true := by
    simp only [State.certified, Bool.and_eq_true, decide_eq_true_eq]
    exact ⟨⟨hsync, by omega⟩, hcomputed.trans htrailer.symm⟩
  exact ⟨hcert, htype, hpayloadLen, hpayload⟩

theorem length_frameBytes (ty : MsgType) (sender : Word16) (payload : List Byte) :
    (frameBytes ty sender payload).length = 8 + payload.length := by
  simp only [frameBytes, coveredBytes, List.length_append, List.length_cons, List.length_nil, length_bytes16]
  omega

/-- So does a buffer that a host has loaded with a frame and anything behind it. -/
theorem State.certified_loadBuffer_frameBytes (s : State) (ty : MsgType) (sender : Word16) {payload : List Byte}
    (rest : List Byte) (hlen : payload.length ≤ 255) :
    let u := s.loadBuffer (frameBytes ty sender payload ++ rest)
    u.certified = true ∧ u.half 1 = ty ∧ u.payloadLen = payload.length ∧ u.holds 6 payload := by
  have hholds := s.holds_loadBuffer (frameBytes ty sender payload ++ rest)
  rw [State.holds_append] at hholds
  refine State.certified_of_holds_frameBytes hlen ?_ hholds.1
  rw [State.loadBuffer_bufLen, List.length_append, length_frameBytes]
  omega

/-! ## Round trips -/

/-- Settles O30: the frame is certified, its length is 20, and its payload is held as the record. -/
theorem baselineRoundTrip : Obligations.BaselineRoundTrip := by
  intro s sender r rest hr hfit
  have hlen : (baselinePayload r).length ≤ 255 := by rw [length_baselinePayload]; decide
  obtain ⟨hcert, htype, hpayloadLen, hholds⟩ := s.certified_loadBuffer_frameBytes 0x0202 sender rest hlen
  have hpass := State.baselineFailure_of_certified hcert hpayloadLen fun _ => htype
  have hanswers := baselineEndsInItsFirstFailingTest .decbl _ (.inl rfl) hfit
  rwa [hpass, verdict_none, (State.holds_baselinePayload hr _).mp hholds] at hanswers

/-- Settles O35: the frame is certified, its length gives the number of records, and its payload is held as the header and
the records. -/
theorem observationRoundTrip : Obligations.ObservationRoundTrip := by
  intro s sender m rest hheader hrecords hfit
  have hm : (Response.ok (.observations m)).wf = true := by rw [Response.wf, hheader, hrecords]; rfl
  have hcount : m.records.length ≤ 14 := by
    simp only [obsRecordsWf, Bool.and_eq_true, decide_eq_true_eq] at hrecords
    exact hrecords.1
  have hpayload := length_observationPayload s.config.fragIndexLow m
  have hlen : (observationPayload s.config.fragIndexLow m).length ≤ 255 := by omega
  obtain ⟨hcert, htype, hpayloadLen, hholds⟩ := s.certified_loadBuffer_frameBytes 0x004A sender rest hlen
  obtain ⟨hdecobs, -⟩ := certifiedObservationsDecode _ _ hfit hcert htype (hpayloadLen.trans hpayload)
  obtain ⟨hhead, hrecs⟩ := (State.holds_observationPayload hm _).mp hholds
  rw [State.observationRecords] at hrecs
  rwa [hhead, hrecs] at hdecobs

/-- Settles O36: the message read is legal, so the buffer holds its bytes, and they are as many as the payload length says. -/
theorem decodedObservationsLoseNoByte : Obligations.DecodedObservationsLoseNoByte := by
  intro s t m h hrsp
  obtain ⟨hpass, hm⟩ := verdict_eq_ok_iff.mp (answer_of_exec_next h hrsp)
  obtain rfl : m = s.observationMessage := Value.observations.inj hm
  have hcount : s.observationMessage.records.length = s.recordCount := s.length_observationMessage_records
  have hholds : s.holds 6 (observationPayload s.config.fragIndexLow s.observationMessage) :=
    (State.holds_observationPayload s.observationMessage_wf s).mpr ⟨rfl, by rw [hcount]; rfl⟩
  rw [State.holds, length_observationPayload, hcount] at hholds
  rw [State.payloadLen_of_obsFailure_none hpass, hholds]

end Sys2Proof.Machine
end
